-- ==== Sys2Proof/Word.lean ====
section
/-! DEFINITION. The plain value types of the part: bytes, addresses, counts as they stand in the byte
layouts, channel numbers and group numbers (spec 00_scope.md, Notation and Conventions). -/

namespace Sys2Proof

/-- A value on either bus, or one byte of a frame (00h to FFh). -/
abbrev Byte := BitVec 8

/-- A 24-bit bus address (000000h to FFFFFFh). -/
abbrev Addr := BitVec 24

/-- A two-byte number of the layouts: times in ms, sequence numbers, the flag word. -/
abbrev Half := BitVec 16

/-- The 32-bit timestamp. -/
abbrev Long := BitVec 32

/-- A channel number, 0 to 15. -/
abbrev Chan := Fin 16

/-- An exclusion group: `0` stands for group 1 of the spec, `3` for its group 4 (R78). -/
abbrev Group := Fin 4

/-- Every channel number in ascending order. -/
def allChans : List Chan := [0, 1, 2, 3, 4, 5, 6, 7, 8, 9, 10, 11, 12, 13, 14, 15]

end Sys2Proof
end

