-- ==== Sys2Proof/Config.lean ====
section
/-! DEFINITION. The capacities and fixed times the spec gives the part, and the one thing it leaves open
that the model leaves free: the order in which inputs found changed together are taken. -/

namespace Sys2Proof.Config

/-- Entries a channel queue holds (R18). -/
def queueDepth : Nat := 8

/-- Records the event queue holds (R159). -/
def eventCapacity : Nat := 32

/-- The largest payload length the port reads further (R174). -/
def maxPayload : Nat := 40

/-- The downstream timeout in microseconds (R100, R112). -/
def downstreamTimeout : Nat := 1000

/-- The mismatch filter in milliseconds (R5, R126). -/
def filterTime : Nat := 2

/-- The drive writes after which a waiting pass-through cycle is issued first (R97). -/
def burstLimit : Nat := 4

/-- The heartbeat timeout, in ms, is 0 or lies between these two (R154). -/
def heartbeatMin : Nat := 10
def heartbeatMax : Nat := 60000

/-- The largest stall limit in microseconds (R154), and the one after reset. -/
def stallLimitMax : Nat := 250
def stallLimitReset : Nat := 50

/-- The order in which MCS#, the host strobes and SAFE# are taken when CLK runs again, at a timestamp. The
spec lets events that fall together be taken in either order (00_scope.md section 3.4, R118, R153), so it
is a free value (notes/assumptions/6.md). -/
opaque inputOrder : Long → Fin 6

end Sys2Proof.Config
end

