-- ==== Sys2Proof/Syntax.lean ====
section
/-! DEFINITION. The commands of the block: one constructor of `Instr` for each of the 63 rows of
spec/opcode_table.json, with the row's operands, and the status codes of a response (R181). -/

namespace Sys2Proof

/-- The status of a response (R181). -/
inductive Status where
  | ok | accepted
  | badCrc | badCommand | badLength
  | wrongMode | busy
  | badField | badChannel | notConfigured | notFaulted | safeLine | conflict | full | blocked
deriving DecidableEq, Repr

/-- The kind of a host cycle, from the strobes asserted at its arrival (R108, R109). -/
inductive CycleKind where
  | read | write | invalid
deriving DecidableEq, Repr

/-- The commands of the part. A management command carries the payload bytes of its request frame
(any number of them: a payload of the wrong length is refused by the command itself, R176 step 4).
An event of a channel carries its channel number. -/
inductive Instr where
  -- management commands (R183)
  | getInfo (payload : List Byte)
  | getStatus (payload : List Byte)
  | setDevice (payload : List Byte)
  | setChannel (payload : List Byte)
  | clearChannel (payload : List Byte)
  | getChannel (payload : List Byte)
  | start (payload : List Byte)
  | stop (payload : List Byte)
  | enterSafe (payload : List Byte)
  | resume (payload : List Byte)
  | clearFault (payload : List Byte)
  | purge (payload : List Byte)
  | queueWrite (payload : List Byte)
  | readEvents (payload : List Byte)
  | readFlags (payload : List Byte)
  | setEnables (payload : List Byte)
  | resetDevice (payload : List Byte)
  /-- A complete request frame that fails test 1, 2 or 3 of R176, as its bytes. -/
  | badCommand (frame : List Byte)
  -- the transaction on the management port
  | transactionOpen
  | transactionClose
  | heldSetChannelAccept
  -- host cycles
  | governedRead (address : Addr)
  | governedWrite (address : Addr) (data : Byte)
  /-- A read carries no data, a write carries its data byte. -/
  | passThroughArrival (address : Addr) (data : Option Byte)
  | invalidCycle (address : Addr)
  /-- The data byte counts for a write alone. -/
  | hostCycleInReset (kind : CycleKind) (address : Addr) (data : Byte)
  | hostCycleEnd
  -- the downstream bus
  | passThroughIssue
  /-- `dd` is the byte on DD0 to DD7 at the completion, used by a read. -/
  | passThroughCompletion (dd : Byte)
  | passTimeout
  | driveIssue
  | driveCompletion
  | driveTimeout
  -- the stall
  | stallTimeout
  | stallReexamine
  -- the cadence machines and the group arbiter
  | holdHeadTake (c : Chan)
  | trainHeadTake (c : Chan)
  | minHoldExpiry (c : Chan)
  | maxHoldExpiry (c : Chan)
  | holdRecoveryEnd (c : Chan)
  | markExpiry (c : Chan)
  | spaceExpiry (c : Chan)
  | pauseExpiry (c : Chan)
  | trainRecoveryEnd (c : Chan)
  | grant (g : Group)
  -- the feedback supervisor
  | settleExpiry (c : Chan)
  | filterExpiry (c : Chan)
  /-- SENSEn now shows `high`. -/
  | senseChange (c : Chan) (high : Bool)
  -- modes, reset, supply and clock
  | heartbeatExpiry
  | safeLineFall
  | safeLineRise
  | resetAssert
  | resetRelease
  | supplyFall
  | enteringRunComplete
  | enteringSafeComplete
  | enteringConfigComplete
  | timestampTick
  | supplyWithinRange
  | clkStops
  | clkRunsAgain
  -- the response on MSO
  | syncByteSent
  | responseCrcSent
deriving DecidableEq, Repr

end Sys2Proof
end

