-- ==== Sys2Proof/Machine/State.lean ====
section
/-! DEFINITION. The state of the UH1624, every piece the spec gives it, as plain data; the reasons a step
can stop; and the state right after reset. INVENTORY.md lists each field with the rule that names it. -/

namespace Sys2Proof.Machine

/-! ### The channel table (chapter 1) -/

/-- The device modes (R140). -/
inductive Mode where
  | config | enteringRun | run | enteringSafe | safe | enteringConfig
deriving DecidableEq, Repr

/-- The causes of an entry to ENTERING_SAFE (R140, R160). -/
inductive SafeCause where
  | command | heartbeat | safeLine
deriving DecidableEq, Repr

/-- The eleven channel states (R16). -/
inductive ChanState where
  | unconfigured | safed | resting | waiting | holding | held | mark | space | pausing
  | recovering | fault
deriving DecidableEq, Repr

/-- What a host write does on a full queue (R2, R26). -/
inductive FullPolicy where
  | stall | discard
deriving DecidableEq, Repr

/-- What a governed read returns (R2, R34). -/
inductive ReadView where
  | driven | commanded
deriving DecidableEq, Repr

/-- The HOLD part of a descriptor, times in ms (R3). -/
structure HoldPart where
  minHold : Half
  maxHold : Half
deriving DecidableEq, Repr

/-- The TRAIN part of a descriptor, times in ms (R4). -/
structure TrainPart where
  markValue : Byte
  markTime : Half
  spaceTime : Half
  pauseUnit : Half
deriving DecidableEq, Repr

/-- The kind of a channel with the part the kind selects (R2 to R4). -/
inductive KindPart where
  | hold (p : HoldPart)
  | train (p : TrainPart)
deriving DecidableEq, Repr

/-- The feedback part of a descriptor, settle time in ms (R5). -/
structure FeedbackPart where
  senseBit : Fin 8
  invert : Bool
  settleTime : Byte
deriving DecidableEq, Repr

/-- A channel descriptor (R2). `group = none` is group 0. -/
structure Descriptor where
  target : Addr
  kind : KindPart
  safe : Byte
  rest : Byte
  gap : Half
  group : Option Group
  policy : FullPolicy
  view : ReadView
  feedback : Option FeedbackPart
deriving DecidableEq, Repr

/-- The kind of a queue entry (R19). -/
inductive EntryKind where
  | set | train | pause
deriving DecidableEq, Repr

/-- Where a queue entry came from (R19). -/
inductive Origin where
  | host | mgmt
deriving DecidableEq, Repr

/-- A queue entry (R19): the operand is a value, a count or a number of pause units. -/
structure Entry where
  kind : EntryKind
  operand : Byte
  origin : Origin
deriving DecidableEq, Repr

/-- The causes of a last fault (R14). -/
inductive FaultCause where
  | feedback | driveTimeout
deriving DecidableEq, Repr

/-- The last fault of a channel with the timestamp of its entry to FAULT (R14). -/
structure LastFault where
  cause : FaultCause
  timestamp : Long
deriving DecidableEq, Repr

/-- The comparison phases of the feedback supervisor (R126). -/
inductive CmpPhase where
  | unknown | settling | agree | filtering | confirmed
deriving DecidableEq, Repr

/-- The comparison record of a supervised channel (R126). `expected = some true` is high. -/
structure Comparison where
  phase : CmpPhase
  expected : Option Bool
  settle : Option Nat
  filter : Option Nat
deriving DecidableEq, Repr

/-- One slot of the channel table with everything the blocks keep for that channel. A millisecond
timer is `none` while it is stopped, `some k` while `k` more ticks are to come before it expires
(R155). The token and the waiter position are read from the groups (R78). -/
structure Channel where
  /-- The descriptor, if the slot is configured (R1). -/
  desc : Option Descriptor
  state : ChanState
  target : Option Byte
  driven : Option Byte
  /-- HOLD: the value waited for. TRAIN: the count waited for (R14). -/
  requested : Option Byte
  marks : Nat
  abortPending : Bool
  queue : List Entry
  lastFault : Option LastFault
  stuckReported : Bool
  /-- The train count, internal to the TRAIN machine (R57). -/
  trainCount : Nat
  minHold : Option Nat
  maxHold : Option Nat
  markTimer : Option Nat
  spaceTimer : Option Nat
  pauseTimer : Option Nat
  recovery : Option Nat
  /-- The comparison record, if the channel is supervised (R126). -/
  cmp : Option Comparison
  /-- The pending drive of the channel (R92). -/
  slot : Option Byte
  /-- The transition mark of the channel (R92, R103). -/
  transitionMark : Bool
deriving DecidableEq, Repr

/-- One exclusion group (R78). -/
structure GroupState where
  holder : Option Chan
  waiters : List Chan
deriving DecidableEq, Repr

/-! ### The drive engine (chapter 6) -/

/-- The drive write in flight (R94). -/
structure InFlight where
  channel : Chan
  address : Addr
  value : Byte
  attached : Bool
deriving DecidableEq, Repr

/-- The state of the downstream bus (R96), with the drive write it carries in DRIVE. -/
inductive Bus where
  | idle
  | drive (f : InFlight)
  | pass
deriving DecidableEq, Repr

/-- The downstream bus, the burst count (R96) and the downstream timer: its length in microseconds
while it runs (R100, R112). -/
structure Downstream where
  bus : Bus
  burst : Nat
  timer : Option Nat
deriving DecidableEq, Repr

/-! ### The host bus port (chapter 7) -/

/-- The states of the port (R109). -/
inductive PortState where
  | idle | passWait | passOn | stalled | ending
deriving DecidableEq, Repr

/-- The decode of a host cycle (R110). -/
inductive HostDecode where
  | governed (c : Chan)
  | pass
  | passHeartbeat
deriving DecidableEq, Repr

/-- How a host cycle was answered (R109). -/
inductive EndKind where
  | normal | error
deriving DecidableEq, Repr

/-- The host cycle record (R109). -/
structure HostCycle where
  kind : CycleKind
  address : Addr
  data : Option Byte
  decode : Option HostDecode
  ending : Option EndKind
  answer : Option Byte
deriving DecidableEq, Repr

/-- The held write the queues keep under a stall (R28). -/
structure HeldWrite where
  channel : Chan
  data : Byte
  entry : Entry
deriving DecidableEq, Repr

/-- The host bus port. `stallTimer` is the stall limit it was started with, in microseconds, while it
runs (R119). `released` says that the host has already ended the strobes of the cycle held (R108). -/
structure HostPort where
  state : PortState
  cycle : Option HostCycle
  stallTimer : Option Nat
  held : Option HeldWrite
  released : Bool
deriving DecidableEq, Repr

/-! ### The mode controller (chapter 9) -/

/-- The mode controller: mode, last safe cause, the device settings, the heartbeat timer (`none` is
DISARMED) and the timestamp (R140, R154). -/
structure ModeControl where
  mode : Mode
  lastSafeCause : Option SafeCause
  heartbeatAddress : Addr
  heartbeatTimeout : Half
  stallLimit : Byte
  heartbeat : Option Nat
  timestamp : Long
deriving DecidableEq, Repr

/-! ### The event unit (chapter 10) -/

/-- The fourteen event kinds (R161). -/
inductive EventKind where
  | blockedWrite | badData | queueFull | stallTimeout | holdExpired | trainDone | trainAborted
  | feedbackFault | feedbackStuck | driveTimeout | passTimeout | heartbeatLost | modeChanged
  | queuePurged
deriving DecidableEq, Repr

/-- An event record (R160). -/
structure EventRecord where
  sequence : Half
  timestamp : Long
  kind : EventKind
  channel : Option Chan
  value : Option Byte
  address : Option Addr
  cause : Option SafeCause
deriving DecidableEq, Repr

/-- The event unit (R159): bit n of `flags` is flag n, bit n of `enables` its enable. `mint` is the
level of MINT#, true while it is asserted (R167). -/
structure EventUnit where
  queue : List EventRecord
  sequence : Half
  flags : BitVec 15
  enables : BitVec 15
  mint : Bool
deriving DecidableEq, Repr

/-! ### The management port (chapter 11) -/

/-- The transaction phases (R173). -/
inductive Phase where
  | closed | request | pending | response | spent | discarding
deriving DecidableEq, Repr

/-- A response that is ready to be sent, or being sent, or sent (R177): its status and payload. -/
structure Response where
  status : Status
  payload : List Byte
deriving DecidableEq, Repr

/-- A SET_CHANNEL whose acceptance is held back (R173, R179). -/
structure PendingSet where
  channel : Chan
  descriptor : Descriptor
deriving DecidableEq, Repr

/-- The management port (R173) and the response of the open transaction. -/
structure MgmtPort where
  phase : Phase
  pendingSet : Option PendingSet
  resetArmed : Bool
  response : Option Response
deriving DecidableEq, Repr

/-! ### Pins, supply and clock -/

/-- The host strobes asserted: HRD#, HWR# or both with HCS#, with HA0 to HA23, and HD0 to HD7 for a write
(R108). -/
inductive HostStrobes where
  | read (address : Addr)
  | write (address : Addr) (data : Byte)
  | invalid (address : Addr)
deriving DecidableEq, Repr

/-- The levels on the input pins, the supply and the clock: `true` for SAFE# high, SENSEn high, RESET#
low (asserted), MCS# low (selected), VCC within range, CLK running. `strobes` is what the host strobes
show when that has changed while CLK was stopped, so that the port has not taken it (R195): `some none`
for released, `some (some h)` for asserted as `h` (DEDUCED, notes/assumptions/6.md). -/
structure Pins where
  safeHigh : Bool
  sense : Vector Bool 16
  resetLow : Bool
  mcsLow : Bool
  supplyOk : Bool
  clkRunning : Bool
  strobes : Option (Option HostStrobes)
deriving DecidableEq, Repr

/-- The state of the part, and the commands waiting to be taken, first in, first out. -/
structure State where
  channels : Vector Channel 16
  groups : Vector GroupState 4
  down : Downstream
  port : HostPort
  ctl : ModeControl
  ev : EventUnit
  mgmt : MgmtPort
  pins : Pins
  pending : List Instr
deriving DecidableEq, Repr

/-- Reasons the part stops with a fault: there are none. The spec gives the part no condition in
which it stops, so no command raises a fault, and the type has no constructor. Safe. -/
inductive Fault where
deriving DecidableEq, Repr

/-- Reasons a command has no meaning in the model. -/
inductive Refusal where
  /-- Raised by an arm of `exec` whose command has no meaning yet: no arm does. Safe. -/
  | notModelled (mnemonic : String)
deriving DecidableEq, Repr

/-- An UNCONFIGURED slot as reset leaves it (R17, R92, R126). -/
def Channel.empty : Channel where
  desc := none
  state := .unconfigured
  target := none
  driven := none
  requested := none
  marks := 0
  abortPending := false
  queue := []
  lastFault := none
  stuckReported := false
  trainCount := 0
  minHold := none
  maxHold := none
  markTimer := none
  spaceTimer := none
  pauseTimer := none
  recovery := none
  cmp := none
  slot := none
  transitionMark := false

/-- A free group with no waiter (R78). -/
def GroupState.free : GroupState := { holder := none, waiters := [] }

/-- The drive engine after reset (R107). -/
def Downstream.reset : Downstream := { bus := .idle, burst := 0, timer := none }

/-- The host bus port with no cycle (R109). -/
def HostPort.idle : HostPort :=
  { state := .idle, cycle := none, stallTimer := none, held := none, released := false }

/-- The mode controller after reset (R140, R154, R158). -/
def ModeControl.reset : ModeControl where
  mode := .config
  lastSafeCause := none
  heartbeatAddress := 0
  heartbeatTimeout := 0
  stallLimit := BitVec.ofNat 8 Config.stallLimitReset
  heartbeat := none
  timestamp := 0

/-- The event unit after reset (R159). -/
def EventUnit.reset : EventUnit :=
  { queue := [], sequence := 0, flags := 0, enables := 0, mint := false }

/-- The management port after reset with MCS# high (R173). -/
def MgmtPort.reset : MgmtPort :=
  { phase := .closed, pendingSet := none, resetArmed := false, response := none }

/-- The levels the inputs show in `State.reset`: RESET# released, VCC within range, CLK running and MCS#
high, as the release of reset needs. DESIGN CHOICE (notes/assumptions/1.md): SAFE# high and every SENSEn
low; the spec gives an input no level. -/
def Pins.quiet : Pins where
  safeHigh := true
  sense := Vector.replicate 16 false
  resetLow := false
  mcsLow := false
  supplyOk := true
  clkRunning := true
  strobes := none

/-- The part right after reset (the table after R158), with no command waiting. -/
def State.reset : State where
  channels := Vector.replicate 16 Channel.empty
  groups := Vector.replicate 4 GroupState.free
  down := Downstream.reset
  port := HostPort.idle
  ctl := ModeControl.reset
  ev := EventUnit.reset
  mgmt := MgmtPort.reset
  pins := Pins.quiet
  pending := []

end Sys2Proof.Machine
end

