-- ==== Sys2Proof/Machine/Flags.lean ====
section
/-! DEFINITION. The event unit: kind codes, flags and enables, the level of MINT#, and creating a record
(chapter 10). -/

namespace Sys2Proof.Machine

/-- The code of an event kind, which is also the number of its flag (R161). -/
def kindCode : EventKind → Nat
  | .blockedWrite => 0x01
  | .badData => 0x02
  | .queueFull => 0x03
  | .stallTimeout => 0x04
  | .holdExpired => 0x05
  | .trainDone => 0x06
  | .trainAborted => 0x07
  | .feedbackFault => 0x08
  | .feedbackStuck => 0x09
  | .driveTimeout => 0x0A
  | .passTimeout => 0x0B
  | .heartbeatLost => 0x0C
  | .modeChanged => 0x0D
  | .queuePurged => 0x0E

/-- The number of the OVERFLOW flag (R159). -/
def overflowFlag : Nat := 0

/-- The flags with flag `n` set (R165). -/
def setFlag (n : Nat) (flags : BitVec 15) : BitVec 15 := flags ||| BitVec.ofNat 15 (2 ^ n)

/-- The level R167 gives MINT#: asserted exactly while a set flag has its enable set. -/
def mintLevel (flags enables : BitVec 15) : Bool := (flags &&& enables) != 0

/-- MINT# brought to the level R167 gives. -/
def EventUnit.updateMint (e : EventUnit) : EventUnit := { e with mint := mintLevel e.flags e.enables }

/-- Storing one stamped record: steps 2 to 4 of R162. -/
def EventUnit.store (r : EventRecord) (e : EventUnit) : EventUnit :=
  let kept : Bool := e.queue.length < Config.eventCapacity
  EventUnit.updateMint
    { e with
      queue := if kept then e.queue ++ [r] else e.queue
      sequence := e.sequence + 1
      flags := setFlag (kindCode r.kind) (if kept then e.flags else setFlag overflowFlag e.flags) }

/-- Creating a record with the fields its kind has (R162). -/
def record (kind : EventKind) (channel : Option Chan) (value : Option Byte) (address : Option Addr)
    (cause : Option SafeCause) (s : State) : State :=
  { s with
    ev := s.ev.store
      { sequence := s.ev.sequence, timestamp := s.ctl.timestamp, kind := kind, channel := channel,
        value := value, address := address, cause := cause } }

/-- A record whose fields are a channel and a value, as most kinds have (R161). -/
def recordChannel (kind : EventKind) (c : Chan) (value : Byte) : State → State :=
  record kind (some c) (some value) none none

/-- The code of a mode (R140). -/
def modeCode : Mode → Byte
  | .config => 0
  | .enteringRun => 1
  | .run => 2
  | .enteringSafe => 3
  | .safe => 4
  | .enteringConfig => 5

/-- MODE_CHANGED with the mode reached, and the last safe cause as its cause for SAFE alone (R142). -/
def recordModeChanged (s : State) : State :=
  record .modeChanged none (some (modeCode s.ctl.mode)) none
    (if s.ctl.mode = .safe then s.ctl.lastSafeCause else none) s

/-- The flags read and all cleared (R169). -/
def clearFlags (s : State) : State := { s with ev := { s.ev with flags := 0 }.updateMint }

/-- The enables written, MINT# following (R166). -/
def writeEnables (enables : BitVec 15) (s : State) : State :=
  { s with ev := { s.ev with enables := enables }.updateMint }

/-- Up to `n` records removed from the head of the event queue (R168). -/
def removeEvents (n : Nat) (s : State) : State :=
  { s with ev := { s.ev with queue := s.ev.queue.drop n } }

end Sys2Proof.Machine
end

