-- ==== Sys2Proof/Machine/Ops.lean ====
section
/-! DEFINITION. The operations the blocks share: reading and updating a channel, timers, drive requests,
the downstream arbiter, the tokens of the groups, the answer of a host cycle, and a response. -/

namespace Sys2Proof.Machine

/-! ### Channels and groups -/

/-- Channel `c` of the table. -/
def State.chan (s : State) (c : Chan) : Channel := s.channels[c.val]

/-- The table with channel `c` replaced. -/
def State.setChan (s : State) (c : Chan) (x : Channel) : State :=
  { s with channels := s.channels.set c.val x }

/-- Channel `c` changed by `f`. -/
def modChan (c : Chan) (f : Channel → Channel) (s : State) : State := s.setChan c (f (s.chan c))

/-- Every channel changed by `f`. -/
def mapChans (f : Channel → Channel) (s : State) : State :=
  { s with channels := Vector.ofFn fun c => f (s.chan c) }

/-- The state of group `g`. -/
def State.group (s : State) (g : Group) : GroupState := s.groups[g.val]

/-- Group `g` replaced. -/
def State.setGroup (s : State) (g : Group) (x : GroupState) : State :=
  { s with groups := s.groups.set g.val x }

/-- The exclusion group of a channel: none for group 0 and for an unconfigured channel (R78). -/
def State.groupOf (s : State) (c : Chan) : Option Group := (s.chan c).desc.bind (·.group)

/-- The token held field of a status record: the group's holder is this channel (R78). -/
def State.tokenHeld (s : State) (c : Chan) : Bool :=
  match s.groupOf c with
  | none => false
  | some g => (s.group g).holder == some c

/-- The waiter position field of a status record: the place in the group's list, counted from 1 (R78). -/
def State.waiterPosition (s : State) (c : Chan) : Option Nat :=
  match s.groupOf c with
  | none => none
  | some g => ((s.group g).waiters.findIdx? (· == c)).map (· + 1)

/-- The channel whose target address is `a` (R1, R110). -/
def State.governed (s : State) (a : Addr) : Option Chan :=
  allChans.find? fun c => (s.chan c).desc.any (·.target == a)

/-- The number of configured slots (R185). -/
def State.configuredCount (s : State) : Nat :=
  (allChans.filter fun c => (s.chan c).desc.isSome).length

/-- The value a HOLD channel is heading for (R15). -/
def Channel.intended (x : Channel) : Option Byte :=
  if x.state = .waiting then x.requested else x.target

/-! ### Timers (R155) -/

/-- A timer of `d` units started now: it expires at the (d + 1)th tick after this instant. A timer of
length 0 is not started. -/
def startTimer (d : Nat) : Option Nat := if d = 0 then none else some (d + 1)

/-- One tick of the timebase. A timer whose ticks have all come is due: its expiry is taken before the
next tick. -/
def tickTimer (t : Option Nat) : Option Nat := t.map (· - 1)

/-- The timer has had all its ticks, and its expiry is to be taken. -/
def isDue (t : Option Nat) : Bool := t == some 0

/-- The cadence timers of a channel stopped (R55, R76). -/
def Channel.stopTimers (x : Channel) : Channel :=
  { x with minHold := none, maxHold := none, markTimer := none, spaceTimer := none,
           pauseTimer := none, recovery := none }

/-- A millisecond tick at one channel's timers. -/
def Channel.tick (x : Channel) : Channel :=
  { x with
    minHold := tickTimer x.minHold, maxHold := tickTimer x.maxHold,
    markTimer := tickTimer x.markTimer, spaceTimer := tickTimer x.spaceTimer,
    pauseTimer := tickTimer x.pauseTimer, recovery := tickTimer x.recovery,
    cmp := x.cmp.map fun k => { k with settle := tickTimer k.settle, filter := tickTimer k.filter } }

/-- A channel put into a state outside its cadence, or into RESTING, with a target value: timers
stopped, nothing requested, no marks, no abort pending (R54, R55, R75, R76). -/
def Channel.leaveCadence (st : ChanState) (target : Byte) (x : Channel) : Channel :=
  { x.stopTimers with
    state := st, target := some target, requested := none, marks := 0, trainCount := 0,
    abortPending := false }

/-! ### What the part can do at all -/

/-- The part is held in reset, by RESET# or by the supply (R157). -/
def State.heldInReset (s : State) : Bool := s.pins.resetLow || !s.pins.supplyOk

/-- The part takes events: CLK runs and no reset holds it (R157, R195). -/
def State.live (s : State) : Bool := s.pins.clkRunning && !s.heldInReset

/-- The modes that are transitions (R142). -/
def Mode.isTransition : Mode → Bool
  | .enteringRun | .enteringSafe | .enteringConfig => true
  | .config | .run | .safe => false

/-- An event of the part: taken when its condition stands and the part takes events. Otherwise it does
not occur, and the state is as it was (notes/assumptions/2.md). -/
def State.onEvent (s : State) (condition : Bool) (next : State) : State :=
  if s.live && condition then next else s

/-! ### Drive requests (R93) -/

/-- A drive of `v` requested for channel `c`: it replaces what the slot held. -/
def requestDrive (c : Chan) (v : Byte) : State → State := modChan c fun x => { x with slot := some v }

/-- The rest or safe drive of a transition requested for every configured channel not in FAULT, with
its transition mark (R103, R143, R145, R146, R148). -/
def requestTransitionDrives (value : Descriptor → Byte) : State → State :=
  mapChans fun x =>
    match x.desc with
    | some d => if x.state = .fault then x else { x with slot := some (value d), transitionMark := true }
    | none => x

/-! ### The downstream arbiter (R96, R97) -/

/-- The lowest-numbered configured channel with a pending drive. -/
def State.lowestPending (s : State) : Option Chan :=
  allChans.find? fun c => (s.chan c).slot.isSome && (s.chan c).desc.isSome

/-- The pending drive of `c` issued as a drive write (R94, R100): the slot empties, the burst count
rises to at most 4, and the downstream timer starts. -/
def issueDrive (c : Chan) (s : State) : State :=
  match (s.chan c).desc, (s.chan c).slot with
  | some d, some v =>
    let t := modChan c (fun x => { x with slot := none }) s
    { t with
      down :=
        { bus := .drive { channel := c, address := d.target, value := v, attached := true }
          burst := min Config.burstLimit (s.down.burst + 1)
          timer := some Config.downstreamTimeout } }
  | _, _ => s

/-- The waiting pass-through cycle issued (R97, R112): the burst count becomes 0 and the port PASS_ON. -/
def issuePass (s : State) : State :=
  { s with
    down := { bus := .pass, burst := 0, timer := some Config.downstreamTimeout }
    port := { s.port with state := .passOn } }

/-- The cycle on the bus ended: strobes released, nothing in flight (R101, R104, R112, R113). -/
def freeBus (s : State) : State := { s with down := { s.down with bus := .idle, timer := none } }

/-- The arbiter at a free bus issues the next cycle of R97, or the bus becomes IDLE with burst count 0.
At a bus that carries a cycle it does nothing. -/
def arbitrate (s : State) : State :=
  match s.down.bus with
  | .idle =>
    match s.lowestPending with
    | some c =>
      if s.port.state = .passWait ∧ s.down.burst = Config.burstLimit then issuePass s
      else issueDrive c s
    | none =>
      if s.port.state = .passWait then issuePass s
      else { s with down := { s.down with burst := 0 } }
  | .drive _ => s
  | .pass => s

/-! ### Answers and responses -/

/-- The host cycle answered (R109): the port enters ENDING with the answer, or, when the host has
already ended its strobes, goes through ENDING to IDLE (R124). The stall, if any, is over. -/
def answerHost (ending : EndKind) (answer : Option Byte) (s : State) : State :=
  if s.port.released then { s with port := HostPort.idle }
  else
    { s with
      port :=
        { state := .ending
          cycle := s.port.cycle.map fun k => { k with ending := some ending, answer := answer }
          stallTimer := none, held := none, released := false } }

/-- A response made ready in the event in which its request is taken (R174, R177). -/
def respond (status : Status) (payload : List Byte) (s : State) : State :=
  { s with mgmt := { s.mgmt with phase := .pending, response := some { status, payload } } }

/-! ### The cadence phases that a token opens -/

/-- HOLDING at `v`: the drive of `v` requested, min-hold and max-hold timers not started (R40, R43,
R49). -/
def enterHolding (c : Chan) (v : Byte) (s : State) : State :=
  requestDrive c v <|
    modChan c (fun x => { x with
      state := .holding, target := some v, requested := none, minHold := none, maxHold := none }) s

/-- MARK with `n` marks of a train of count `n`: the mark drive requested, the mark timer not started
(R60, R62). -/
def enterMark (c : Chan) (p : TrainPart) (n : Nat) (s : State) : State :=
  requestDrive c p.markValue <|
    modChan c (fun x => { x with
      state := .mark, target := some p.markValue, requested := none, marks := n, trainCount := n,
      abortPending := false, markTimer := none }) s

/-- WAITING for the token with the value or count asked for (R40, R60). -/
def enterWaiting (c : Chan) (requested : Byte) : State → State :=
  modChan c fun x => { x with state := .waiting, requested := some requested }

/-- A grant delivered to the machine of a WAITING channel (R43, R62). -/
def deliverGrant (c : Chan) (s : State) : State :=
  match (s.chan c).desc, (s.chan c).requested with
  | some d, some q =>
    match d.kind with
    | .hold _ => enterHolding c q s
    | .train p => enterMark c p q.toNat s
  | _, _ => s

/-! ### The group arbiter (chapter 5) -/

/-- No token is needed, or the token is free (R80). -/
def State.tokenFree (s : State) (g : Option Group) : Bool :=
  match g with
  | none => true
  | some g => (s.group g).holder.isNone

/-- The token given to `c` at its request (R80). -/
def takeToken (c : Chan) (g : Option Group) (s : State) : State :=
  match g with
  | none => s
  | some g => s.setGroup g { s.group g with holder := some c }

/-- `c` appended at the tail of the waiter list (R80). -/
def joinWaiters (c : Chan) (g : Option Group) (s : State) : State :=
  match g with
  | none => s
  | some g => s.setGroup g { s.group g with waiters := (s.group g).waiters ++ [c] }

/-- The token of `g` given up: to the head waiter, which is granted it, or free (steps 2 to 4 of R82). -/
def passToken (g : Group) (s : State) : State :=
  match (s.group g).waiters with
  | [] => s.setGroup g { holder := none, waiters := [] }
  | w :: rest => deliverGrant w (s.setGroup g { holder := some w, waiters := rest })

/-- The release of a token held by `c`, if it holds one (R82, R86). -/
def releaseToken (c : Chan) (s : State) : State :=
  match s.groupOf c with
  | none => s
  | some g => if (s.group g).holder = some c then passToken g s else s

/-- `c` leaves the waiter list of its group; those behind it move up (R85, R87). -/
def withdraw (c : Chan) (s : State) : State :=
  match s.groupOf c with
  | none => s
  | some g => s.setGroup g { s.group g with waiters := (s.group g).waiters.filter (· != c) }

/-- Every token free and every waiter list empty, no grant made (R88). -/
def clearGroups (s : State) : State := { s with groups := Vector.replicate 4 GroupState.free }

/-! ### The stall -/

/-- The held write given up with BLOCKED_WRITE and a normal end (R122), when it is held for a channel
the predicate names. -/
def giveUpStall (concerns : Chan → Bool) (s : State) : State :=
  match s.port.held with
  | some h =>
    if s.port.state = .stalled ∧ concerns h.channel then
      answerHost .normal none (recordChannel .blockedWrite h.channel h.data s)
    else s
  | none => s

/-! ### Entering FAULT (R105, R132, R133) -/

/-- The safe drive of a fault, with the transition mark set in ENTERING_RUN and ENTERING_SAFE (R103). -/
def requestFaultDrive (c : Chan) (v : Byte) (s : State) : State :=
  requestDrive c v <|
    modChan c (fun x =>
      if s.ctl.mode = .enteringRun ∨ s.ctl.mode = .enteringSafe then { x with transitionMark := true }
      else x) s

/-- Channel `c` enters FAULT: last fault, stuck reported no, queue emptied with no event, cadence left,
safe drive requested, token released or waiter list left, a write held for it given up. -/
def faultChannel (c : Chan) (cause : FaultCause) (s : State) : State :=
  match (s.chan c).desc with
  | none => s
  | some d =>
    giveUpStall (· == c) <| withdraw c <| releaseToken c <| requestFaultDrive c d.safe <|
      modChan c (fun x =>
        { x.leaveCadence .fault d.safe with
          lastFault := some { cause, timestamp := s.ctl.timestamp }, stuckReported := false,
          queue := [] }) s

end Sys2Proof.Machine
end

