-- ==== Sys2Proof/Machine/Operands.lean ====
section
/-! DEFINITION. The operands of the management commands as their payload bytes spell them, the checks on
them, and the acceptance of a request by length and mode (R6, R7, R154, R176, R182, R183, R189). -/

namespace Sys2Proof.Machine

/-! ### Bytes -/

/-- Byte `i` of a payload (offsets count from 0, section 11.4). -/
def byteAt (p : List Byte) (i : Nat) : Byte := p.getD i 0

/-- A two-byte number, most significant byte first (section 11.4). -/
def halfAt (p : List Byte) (i : Nat) : Half := byteAt p i ++ byteAt p (i + 1)

/-- A three-byte address, most significant byte first (section 11.4). -/
def addrAt (p : List Byte) (i : Nat) : Addr := byteAt p i ++ byteAt p (i + 1) ++ byteAt p (i + 2)

/-- The channel a byte names: none above 0Fh (R183). -/
def chanOf (b : Byte) : Option Chan := if h : b.toNat < 16 then some ⟨b.toNat, h⟩ else none

/-- The group a byte names, 00h being no group (R189). -/
def groupOfByte (b : Byte) : Option Group :=
  if h : 1 ≤ b.toNat ∧ b.toNat ≤ 4 then some ⟨b.toNat - 1, by omega⟩ else none

/-! ### The descriptor of SET_CHANNEL (R6, R7, R189) -/

/-- The checks of R6 and R7 on the common fields and the feedback part, as pairs of a field index and
whether the field fails. -/
def commonFailures (r : List Byte) : List (Nat × Bool) :=
  [(6, 4 < (byteAt r 8).toNat), (7, 1 < (byteAt r 9).toNat), (8, 1 < (byteAt r 10).toNat)]

/-- Fields 15 to 18: fields 16 to 18 are checked only when field 15 says the part is present (R6). -/
def feedbackFailures (r : List Byte) : List (Nat × Bool) :=
  let present : Bool := byteAt r 18 == 1
  [(15, 1 < (byteAt r 18).toNat), (16, present && 7 < (byteAt r 19).toNat),
   (17, present && 1 < (byteAt r 20).toNat), (18, present && byteAt r 21 == 0)]

/-- Max hold is 0, or not less than min hold (R7, charged to field 10). -/
def holdFailures (r : List Byte) : List (Nat × Bool) :=
  [(10, halfAt r 13 != 0 && (halfAt r 13).toNat < (halfAt r 11).toNat)]

/-- A time lies in its range (R4). -/
def inRange (lo hi : Nat) (t : Half) : Bool := lo ≤ t.toNat && t.toNat ≤ hi

/-- Fields 11 to 14 of a TRAIN descriptor (R4, R7). -/
def trainFailures (r : List Byte) : List (Nat × Bool) :=
  [(11, byteAt r 11 == byteAt r 5), (12, !inRange 1 1000 (halfAt r 12)),
   (13, !inRange 1 1000 (halfAt r 14)), (14, !inRange 10 1000 (halfAt r 16))]

/-- Field 5 of a TRAIN descriptor: the gap is at least 1 ms (R2) and, when the space time passes its own
check, not less than the space time (R7). -/
def trainGapFailure (r : List Byte) : Bool :=
  halfAt r 6 == 0 ||
    (inRange 1 1000 (halfAt r 14) && (halfAt r 6).toNat < (halfAt r 14).toNat)

/-- Every check of R6 and R7 on the 22 descriptor bytes, in ascending field index. When the kind byte
is undefined, index 2 fails and nothing above it is checked. -/
def descriptorChecks (r : List Byte) : List (Nat × Bool) :=
  match (byteAt r 3).toNat with
  | 0 => commonFailures r ++ holdFailures r ++ feedbackFailures r
  | 1 => [(5, trainGapFailure r)] ++ commonFailures r ++ trainFailures r ++ feedbackFailures r
  | _ => [(2, true)]

/-- The lowest field index that fails (R6, R7). -/
def descriptorFailure (r : List Byte) : Option Nat :=
  ((descriptorChecks r).find? (·.2)).map (·.1)

/-- The descriptor the 22 bytes spell (R189), for bytes that pass every check. -/
def descriptorOf (r : List Byte) : Descriptor where
  target := addrAt r 0
  kind :=
    if byteAt r 3 = 0 then .hold { minHold := halfAt r 11, maxHold := halfAt r 13 }
    else
      .train { markValue := byteAt r 11, markTime := halfAt r 12, spaceTime := halfAt r 14,
               pauseUnit := halfAt r 16 }
  safe := byteAt r 4
  rest := byteAt r 5
  gap := halfAt r 6
  group := groupOfByte (byteAt r 8)
  policy := if byteAt r 9 = 0 then .stall else .discard
  view := if byteAt r 10 = 0 then .driven else .commanded
  feedback :=
    if byteAt r 18 = 1 then
      some { senseBit := ⟨(byteAt r 19).toNat % 8, Nat.mod_lt _ (by decide)⟩,
             invert := byteAt r 20 == 1, settleTime := byteAt r 21 }
    else none

/-- A target address conflicts when another configured channel has it or it is the heartbeat address
(R8). -/
def targetConflicts (c : Chan) (a : Addr) (s : State) : Bool :=
  allChans.any (fun k => k != c && (s.chan k).desc.any (·.target == a)) ||
    a == s.ctl.heartbeatAddress

/-! ### The settings of SET_DEVICE (R154) -/

/-- The lowest failing setting index (R154). -/
def settingsFailure (p : List Byte) : Option Nat :=
  let timeout := (halfAt p 3).toNat
  if (0 < timeout ∧ timeout < Config.heartbeatMin) ∨ Config.heartbeatMax < timeout then some 2
  else if (byteAt p 5).toNat = 0 ∨ Config.stallLimitMax < (byteAt p 5).toNat then some 3
  else none

/-! ### Acceptance by length and mode (R176 steps 4 and 5, R182) -/

/-- The rows of the table of R182. -/
inductive Acceptance where
  | always | configOnly | runOrSafe | safeOnly | runOnly
deriving DecidableEq, Repr

/-- The modes in which a command is taken (R182). -/
def takenIn : Acceptance → Mode → Bool
  | .always, _ => true
  | .configOnly, m => m == .config
  | .runOrSafe, m => m == .run || m == .safe
  | .safeOnly, m => m == .safe
  | .runOnly, m => m == .run

/-- The status of a command not taken in a mode (R182). -/
def modeRefusal (m : Mode) : Status := if m.isTransition then .busy else .wrongMode

/-- BAD_FIELD with its field index as payload (R181). -/
def respondBadField (index : Nat) : State → State := respond .badField [BitVec.ofNat 8 index]

/-- A complete request of a defined command with a matching CRC is taken (R176): only in phase REQUEST,
then the length, then the mode, then the owning rule. -/
def takeRequest (length : Nat) (modes : Acceptance) (payload : List Byte) (s : State)
    (body : State) : State :=
  s.onEvent (s.mgmt.phase == .request) <|
    if payload.length ≠ length then respond .badLength [] s
    else if takenIn modes s.ctl.mode then body
    else respond (modeRefusal s.ctl.mode) [] s

/-- The channel check that comes before every other check of the owning rule (R183). -/
def withChannel (payload : List Byte) (s : State) (body : Chan → State) : State :=
  match chanOf (byteAt payload 0) with
  | none => respond .badChannel [] s
  | some c => body c

end Sys2Proof.Machine
end

