-- ==== Sys2Proof/Machine/Feedback.lean ====
section
/-! DEFINITION. The feedback supervisor (chapter 8) and the meanings of SETTLE_EXPIRY, FILTER_EXPIRY,
SENSE_CHANGE and CLEAR_FAULT. -/

namespace Sys2Proof.Machine

/-- The level SENSEn should show for a driven value (R127): `true` is high. -/
def expectedLevel (f : FeedbackPart) (v : Byte) : Bool := v.getLsbD f.senseBit.val != f.invert

/-- The comparison record of a channel just configured (R126, R136): UNKNOWN. -/
def Comparison.unknown : Comparison :=
  { phase := .unknown, expected := none, settle := none, filter := none }

/-- SETTLING for an expected level, with the full settle time (R128, R139). -/
def Comparison.settling (f : FeedbackPart) (level : Bool) : Comparison :=
  { phase := .settling, expected := some level, settle := startTimer f.settleTime.toNat, filter := none }

/-- AGREE with the expected level kept (R129, R130). -/
def Comparison.toAgree (k : Comparison) : Comparison :=
  { k with phase := .agree, settle := none, filter := none }

/-- FILTERING with a full filter time (R128 to R130). -/
def Comparison.toFiltering (k : Comparison) : Comparison :=
  { k with phase := .filtering, settle := none, filter := startTimer Config.filterTime }

/-- A credited completion of value `v` at the comparison (R128). -/
def Comparison.completion (f : FeedbackPart) (v : Byte) (k : Comparison) : Comparison :=
  let level := expectedLevel f v
  match k.phase with
  | .unknown => .settling f level
  | .settling | .agree | .filtering =>
    if k.expected = some level then k else .settling f level
  | .confirmed => if k.expected = some level then k.toFiltering else .settling f level

/-- The settle timer expired with SENSEn at `sense` (R129). -/
def Comparison.settled (sense : Bool) (k : Comparison) : Comparison :=
  if k.expected = some sense then k.toAgree else k.toFiltering

/-- A change of SENSEn that leaves it at `sense` (R130). -/
def Comparison.sensed (sense : Bool) (k : Comparison) : Comparison :=
  match k.phase with
  | .agree => if k.expected = some sense then k else k.toFiltering
  | .filtering | .confirmed => if k.expected = some sense then k.toAgree else k
  | .unknown | .settling => k

/-- A channel's comparison record changed, if it is supervised. -/
def modComparison (c : Chan) (f : FeedbackPart → Comparison → Comparison) : State → State :=
  modChan c fun x =>
    match x.desc.bind (·.feedback) with
    | some fb => { x with cmp := x.cmp.map (f fb) }
    | none => x

/-- The present level of SENSEn. -/
def State.senseLevel (s : State) (c : Chan) : Bool := s.pins.sense[c.val]

/-- A confirmed mismatch of a channel in FAULT: FEEDBACK_STUCK once in a stay (R135). -/
def reportStuck (c : Chan) (s : State) : State :=
  if (s.chan c).stuckReported then s
  else
    record .feedbackStuck (some c) none none none
      (modChan c (fun x => { x with stuckReported := true }) s)

/-- The filter expired: the mismatch is confirmed, and acts by mode and state (R131 to R135). The value
recorded is the driven value at the confirmation. -/
def confirmMismatch (c : Chan) (s : State) : State :=
  let t := modComparison c (fun _ k => { k with phase := .confirmed, filter := none }) s
  if (s.chan c).state = .fault then reportStuck c t
  else
    let t := record .feedbackFault (some c) (s.chan c).driven none none t
    if s.ctl.mode = .config ∨ s.ctl.mode = .enteringConfig then t else faultChannel c .feedback t

/-- The phase of a channel's comparison, if it is supervised. -/
def Channel.cmpPhase (x : Channel) : Option CmpPhase := x.cmp.map (·.phase)

/-- The settle expiry, if it is due (R129). -/
def settleExpires (c : Chan) (s : State) : State :=
  s.onEvent ((s.chan c).cmpPhase == some .settling && isDue ((s.chan c).cmp.bind (·.settle)))
    (modComparison c (fun _ k => k.settled (s.senseLevel c)) s)

/-- The filter expiry, if it is due (R131). -/
def filterExpires (c : Chan) (s : State) : State :=
  s.onEvent ((s.chan c).cmpPhase == some .filtering && isDue ((s.chan c).cmp.bind (·.filter)))
    (arbitrate (confirmMismatch c s))

/-- SETTLE_EXPIRY (R129). -/
def execSettleExpiry (c : Chan) (s : State) : Host.Outcome State Fault Refusal :=
  .next (settleExpires c s)

/-- FILTER_EXPIRY (R131). -/
def execFilterExpiry (c : Chan) (s : State) : Host.Outcome State Fault Refusal :=
  .next (filterExpires c s)

/-- SENSEn of channel `c` at its present level, acted on by the comparison (R130). -/
def actOnSense (c : Chan) (s : State) : State :=
  modComparison c (fun _ k => k.sensed (s.senseLevel c)) s

/-- SENSE_CHANGE (R130): SENSEn shows the level given. While the part takes no events only the pin
changes (R157, R195). -/
def execSenseChange (c : Chan) (high : Bool) (s : State) : Host.Outcome State Fault Refusal :=
  let t := { s with pins := { s.pins with sense := s.pins.sense.set c.val high } }
  .next (if s.live && s.senseLevel c != high then actOnSense c t else t)

/-- A FAULT channel back to RESTING in RUN (R138): rest drive requested, comparison UNKNOWN. -/
def clearFaultInRun (c : Chan) (d : Descriptor) (s : State) : State :=
  requestDrive c d.rest <| modComparison c (fun _ _ => .unknown) <|
    modChan c (fun x => { x.leaveCadence .resting d.rest with stuckReported := false, queue := [] }) s

/-- The comparison of a channel cleared in SAFE: settling for the driven value, or UNKNOWN when the
driven value is absent (R139). -/
def resettle (f : FeedbackPart) (driven : Option Byte) (k : Comparison) : Comparison :=
  match driven with
  | some v => .settling f (expectedLevel f v)
  | none => k

/-- A FAULT channel back to SAFED in SAFE (R139). No drive is requested. -/
def clearFaultInSafe (c : Chan) (d : Descriptor) (s : State) : State :=
  modComparison c (fun f k => resettle f (s.chan c).driven k) <|
    modChan c (fun x => { x.leaveCadence .safed d.safe with stuckReported := false }) s

/-- CLEAR_FAULT (R138, R139). -/
def execClearFault (payload : List Byte) (s : State) : Host.Outcome State Fault Refusal :=
  .next <| takeRequest 1 .runOrSafe payload s <| withChannel payload s fun c =>
    match (s.chan c).desc with
    | none => respond .notConfigured [] s
    | some d =>
      if (s.chan c).state ≠ .fault then respond .notFaulted [] s
      else if s.ctl.mode = .run then respond .ok [] (arbitrate (clearFaultInRun c d s))
      else respond .ok [] (clearFaultInSafe c d s)

end Sys2Proof.Machine
end

