-- ==== Sys2Proof/Machine/Queues.lean ====
section
/-! DEFINITION. The channel queues: decoding a governed write, absorption, the fullness test, ABORT, the
re-examination of a held write, and the read views (chapter 2; the abort itself is R69 to R73). -/

namespace Sys2Proof.Machine

/-! ### Decoding (R21 step 1, R22, R24) -/

/-- What a data byte decodes to. -/
inductive WriteDecode where
  | entry (e : Entry)
  | abort
  | undefinedData
deriving DecidableEq, Repr

/-- A data byte written to a TRAIN channel (R24). -/
def decodeTrainData (v : Byte) (o : Origin) : WriteDecode :=
  if v = 0x00#8 then .abort
  else if v.toNat ≤ 0x3F then .entry { kind := .train, operand := v, origin := o }
  else if 0x81 ≤ v.toNat ∧ v.toNat ≤ 0x8F then
    .entry { kind := .pause, operand := v &&& 0x0F#8, origin := o }
  else .undefinedData

/-- A data byte written to a channel, by its kind (R22, R24). -/
def decodeWrite (k : KindPart) (v : Byte) (o : Origin) : WriteDecode :=
  match k with
  | .hold _ => .entry { kind := .set, operand := v, origin := o }
  | .train _ => decodeTrainData v o

/-! ### Absorption and the queue (R20, R22) -/

/-- A HOLD write is absorbed when it equals the tail, or, on an empty queue, the intended value. A TRAIN
channel does not absorb (R22, R24). -/
def absorbs (k : KindPart) (x : Channel) (v : Byte) : Bool :=
  match k with
  | .train _ => false
  | .hold _ =>
    match x.queue.getLast? with
    | some tail => tail.operand == v
    | none => x.intended == some v

/-- An entry appended at the tail (R20). -/
def appendEntry (c : Chan) (e : Entry) : State → State :=
  modChan c fun x => { x with queue := x.queue ++ [e] }

/-- Every entry removed (R25, R31, R32). -/
def emptyQueue (c : Chan) : State → State := modChan c fun x => { x with queue := [] }

/-- The head removed (R30). -/
def dropHead (c : Chan) : State → State := modChan c fun x => { x with queue := x.queue.tail }

/-! ### ABORT (R69 to R73) -/

/-- The number of marks of the current train that will not be driven (R69). -/
def abortCount (x : Channel) : Nat :=
  match x.state with
  | .mark => if x.abortPending then 0 else x.marks - 1
  | .space => x.marks
  | .waiting => (x.requested.getD 0).toNat
  | .unconfigured | .safed | .resting | .holding | .held | .pausing | .recovering | .fault => 0

/-- The state effect of an abort (R70 to R73). In SPACE the recovery timer starts at once when the space
timer was running, else at the completion of the rest drive (R71). -/
def abortEffect (gap : Half) (x : Channel) : Channel :=
  match x.state with
  | .mark => { x with abortPending := true }
  | .space =>
    { x with
      state := .recovering, marks := 0, trainCount := 0, abortPending := false, spaceTimer := none,
      recovery := if x.spaceTimer.isSome then startTimer gap.toNat else none }
  | .waiting => { x with state := .resting, requested := none }
  | .pausing => { x with state := .resting, pauseTimer := none }
  | .unconfigured | .safed | .resting | .holding | .held | .recovering | .fault => x

/-- An ABORT taken by a TRAIN channel: the queue emptied, the effect on the state with the withdrawal
from WAITING, and TRAIN_ABORTED (R25, R69). -/
def abortTrain (c : Chan) (d : Descriptor) (s : State) : State :=
  let x := s.chan c
  recordChannel .trainAborted c (BitVec.ofNat 8 (abortCount x)) <|
    modChan c (abortEffect d.gap) <|
      (if x.state = .waiting then withdraw c else id) (emptyQueue c s)

/-! ### Examining a write (R21, R26) -/

/-- The results of examining a write. `meetsFull` is an entry that meets a full queue; the source of the
write and the full policy decide what becomes of it (R26). -/
inductive Examined where
  | appended | absorbed | aborted | refused
  | meetsFull (e : Entry)
deriving DecidableEq, Repr

/-- A write examined against the channel and its queue as they stand (R21): its result, and the state
after it. -/
def examine (c : Chan) (d : Descriptor) (v : Byte) (o : Origin) (s : State) : Examined × State :=
  match decodeWrite d.kind v o with
  | .undefinedData => (.refused, recordChannel .badData c v s)
  | .abort => (.aborted, abortTrain c d s)
  | .entry e =>
    if absorbs d.kind (s.chan c) v then (.absorbed, s)
    else if (s.chan c).queue.length < Config.queueDepth then (.appended, appendEntry c e s)
    else (.meetsFull e, s)

/-- The held write of channel `c` is examined again in the event that freed a slot, against what the
event has left, and the stall ends normally (R29, R120). While the queue is still full it stays held. -/
def reexamine (c : Chan) (s : State) : State :=
  match s.port.held, (s.chan c).desc with
  | some h, some d =>
    if s.port.state = .stalled ∧ h.channel = c ∧ (s.chan c).queue.length < Config.queueDepth then
      answerHost .normal none (examine c d h.data .host s).2
    else s
  | _, _ => s

/-! ### Read views (R34 to R36) -/

/-- The COMMANDED view of a HOLD channel: the tail, or the intended value of an empty queue (R35). -/
def holdCommanded (x : Channel) : Byte :=
  match x.queue.getLast? with
  | some tail => tail.operand
  | none => x.intended.getD 0

/-- The marks that the state of a TRAIN channel still promises (R36). -/
def marksPromised (x : Channel) : Nat :=
  match x.state with
  | .mark => if x.abortPending then 1 else x.marks
  | .space => x.marks
  | .waiting => (x.requested.getD 0).toNat
  | .unconfigured | .safed | .resting | .holding | .held | .pausing | .recovering | .fault => 0

/-- The counts of the TRAIN entries queued (R36). -/
def queuedMarks (q : List Entry) : Nat :=
  (q.map fun e => if e.kind = .train then e.operand.toNat else 0).sum

/-- The COMMANDED view of a TRAIN channel, saturated at 255 (R36). -/
def trainCommanded (x : Channel) : Byte :=
  BitVec.ofNat 8 (min 255 (marksPromised x + queuedMarks x.queue))

/-- The byte a governed read returns (R34). -/
def readView (d : Descriptor) (x : Channel) : Byte :=
  match d.view with
  | .driven => x.driven.getD 0
  | .commanded =>
    match d.kind with
    | .hold _ => holdCommanded x
    | .train _ => trainCommanded x

end Sys2Proof.Machine
end

