-- ==== Sys2Proof/Machine/Hold.lean ====
section
/-! DEFINITION. The HOLD machine (chapter 3) and the meanings of its events: HOLD_HEAD_TAKE,
MIN_HOLD_EXPIRY, MAX_HOLD_EXPIRY and HOLD_RECOVERY_END. -/

namespace Sys2Proof.Machine

/-- The states in which a HOLD channel takes heads (R38). -/
def holdTakes (st : ChanState) : Bool := st == .resting || st == .waiting || st == .held

/-- An activation in RESTING: HOLDING when no token is needed or it is free, else WAITING at the tail of
the list (R40, R80). -/
def activateHold (c : Chan) (d : Descriptor) (v : Byte) (s : State) : State :=
  if s.tokenFree d.group then enterHolding c v (takeToken c d.group s)
  else enterWaiting c v (joinWaiters c d.group s)

/-- RECOVERING with the rest drive requested, the max-hold timer stopped and the recovery timer not
started (R48, R50). -/
def releaseHold (c : Chan) (d : Descriptor) (s : State) : State :=
  requestDrive c d.rest <|
    modChan c (fun x => { x with
      state := .recovering, target := some d.rest, minHold := none, maxHold := none,
      recovery := none }) s

/-- The action on a head SET(v) already removed, by the state (R39 to R42, R48, R49). -/
def actOnSet (c : Chan) (d : Descriptor) (v : Byte) (s : State) : State :=
  let x := s.chan c
  if x.intended = some v then s
  else if x.state = .resting then activateHold c d v s
  else if x.state = .waiting then
    if v = d.rest then
      modChan c (fun x => { x with state := .resting, requested := none }) (withdraw c s)
    else modChan c (fun x => { x with requested := some v }) s
  else if x.state = .held then
    if v = d.rest then releaseHold c d s else enterHolding c v s
  else s

/-- Heads taken one after another until the queue is empty or the channel has left the taking states
(R38); the first argument bounds their number. -/
def takeHolds : Nat → Chan → Descriptor → State → State
  | 0, _, _, s => s
  | n + 1, c, d, s =>
    match (s.chan c).queue with
    | [] => s
    | e :: _ =>
      if holdTakes (s.chan c).state then takeHolds n c d (actOnSet c d e.operand (dropHead c s)) else s

/-- The heads a HOLD channel takes in one event, with the re-examination of a write held on its queue
when one of them has left (R29, R38). -/
def takeHoldHeads (c : Chan) (d : Descriptor) (s : State) : State :=
  reexamine c (takeHolds (s.chan c).queue.length c d s)

/-- A forced release (R50): HOLD_EXPIRED with the active value, then RECOVERING. -/
def forceRelease (c : Chan) (d : Descriptor) (s : State) : State :=
  releaseHold c d (recordChannel .holdExpired c ((s.chan c).target.getD 0) s)

/-- The max-hold timer has expired and the channel is HELD (R50). -/
def maxHoldDue (x : Channel) : Bool := x.state == .held && isDue x.maxHold

/-- HELD: the min-hold timer stopped, the max-hold timer running on, and the heads taken (R46). A max-hold
expiry of the same tick, still to be taken then, is taken at once (R51). -/
def becomeHeld (c : Chan) (d : Descriptor) (s : State) : State :=
  let t := takeHoldHeads c d (modChan c (fun x => { x with state := .held, minHold := none }) s)
  if maxHoldDue (t.chan c) then forceRelease c d t else t

/-- The end of a recovery, in the order of R53: timer stopped, token given back, RESTING, heads taken. -/
def endHoldRecovery (c : Chan) (d : Descriptor) (s : State) : State :=
  takeHoldHeads c d <|
    modChan c (fun x => { x with state := .resting, target := some d.rest }) <|
      releaseToken c (modChan c (fun x => { x with recovery := none }) s)

/-- The latest completion at the HOLD machine (R45). -/
def holdCompletion (c : Chan) (d : Descriptor) (p : HoldPart) (s : State) : State :=
  let x := s.chan c
  if x.state = .holding ∧ x.minHold = none then
    let t := modChan c (fun x => { x with
      minHold := startTimer p.minHold.toNat, maxHold := startTimer p.maxHold.toNat }) s
    if p.minHold = 0 then becomeHeld c d t else t
  else if x.state = .recovering ∧ x.recovery = none then
    if d.gap = 0 then endHoldRecovery c d s
    else modChan c (fun x => { x with recovery := startTimer d.gap.toNat }) s
  else s

/-- The descriptor of a HOLD channel. -/
def Channel.holdDesc (x : Channel) : Option Descriptor :=
  x.desc.filter fun d =>
    match d.kind with
    | .hold _ => true
    | .train _ => false

/-- An event of a configured HOLD channel in RUN, under a condition on its record, followed by the
arbiter's choice. -/
def onHold (c : Chan) (condition : Channel → Bool) (body : Descriptor → State → State) (s : State) :
    State :=
  match (s.chan c).holdDesc with
  | none => s
  | some d => s.onEvent (s.ctl.mode == .run && condition (s.chan c)) (arbitrate (body d s))

/-- The take that follows an append (R30, R38), if a head waits in a taking state. -/
def holdHeadTakes (c : Chan) : State → State :=
  onHold c (fun x => holdTakes x.state && !x.queue.isEmpty) (takeHoldHeads c)

/-- HOLD_HEAD_TAKE (R30, R38). -/
def execHoldHeadTake (c : Chan) (s : State) : Host.Outcome State Fault Refusal :=
  .next (holdHeadTakes c s)

/-- The min-hold expiry, if it is due (R46). -/
def minHoldExpires (c : Chan) : State → State :=
  onHold c (fun x => x.state == .holding && isDue x.minHold) (becomeHeld c)

/-- The max-hold expiry, if it is due. It is taken in HELD alone, so that a min-hold expiry of the same
tick comes first (R50, R51). -/
def maxHoldExpires (c : Chan) : State → State := onHold c maxHoldDue (forceRelease c)

/-- The end of a HOLD recovery, if its timer is due (R53). -/
def holdRecoveryEnds (c : Chan) : State → State :=
  onHold c (fun x => x.state == .recovering && isDue x.recovery) (endHoldRecovery c)

/-- MIN_HOLD_EXPIRY (R46, R51). -/
def execMinHoldExpiry (c : Chan) (s : State) : Host.Outcome State Fault Refusal :=
  .next (minHoldExpires c s)

/-- MAX_HOLD_EXPIRY (R50). -/
def execMaxHoldExpiry (c : Chan) (s : State) : Host.Outcome State Fault Refusal :=
  .next (maxHoldExpires c s)

/-- HOLD_RECOVERY_END (R53). -/
def execHoldRecoveryEnd (c : Chan) (s : State) : Host.Outcome State Fault Refusal :=
  .next (holdRecoveryEnds c s)

end Sys2Proof.Machine
end

