-- ==== Sys2Proof/Machine/Modes.lean ====
section
/-! DEFINITION. The mode controller (chapter 9): transitions and their completion, leaving RUN, the
SAFE# line, the heartbeat, and the meanings of START, STOP, ENTER_SAFE, RESUME, HEARTBEAT_EXPIRY,
SAFE_LINE_FALL, SAFE_LINE_RISE and the three completions. -/

namespace Sys2Proof.Machine

/-- The mode set. -/
def setMode (m : Mode) (s : State) : State := { s with ctl := { s.ctl with mode := m } }

/-- The heartbeat timer set: `none` is DISARMED (R151). -/
def setHeartbeat (t : Option Nat) (s : State) : State := { s with ctl := { s.ctl with heartbeat := t } }

/-- The last safe cause set (R140). -/
def setSafeCause (cause : SafeCause) (s : State) : State :=
  { s with ctl := { s.ctl with lastSafeCause := some cause } }

/-- No channel has its transition mark at yes (R142). -/
def State.noMarks (s : State) : Bool := allChans.all fun c => !(s.chan c).transitionMark

/-! ### Completion of a transition -/

/-- A configured channel not in FAULT becomes RESTING at the entry to RUN (R54, R75, R144). -/
def Channel.enterRun (x : Channel) : Channel :=
  match x.desc with
  | some d => if x.state = .fault then x else { x.leaveCadence .resting d.rest with queue := [] }
  | none => x

/-- A channel in FAULT becomes SAFED at the entry to CONFIG (R150): last fault and comparison kept. -/
def Channel.enterConfig (x : Channel) : Channel :=
  match x.desc with
  | some d =>
    if x.state = .fault then { x.leaveCadence .safed d.safe with stuckReported := false } else x
  | none => x

/-- ENTERING_RUN ends in RUN (R144): the heartbeat timer starts when the timeout is not 0 (R151). -/
def completeRun (s : State) : State :=
  recordModeChanged <| setHeartbeat (startTimer s.ctl.heartbeatTimeout.toNat) <|
    mapChans Channel.enterRun (setMode .run s)

/-- ENTERING_SAFE ends in SAFE (R149). -/
def completeSafe (s : State) : State := recordModeChanged (setMode .safe s)

/-- The part reaches CONFIG, from ENTERING_CONFIG or by STOP in SAFE (R150). -/
def completeConfig (s : State) : State :=
  recordModeChanged (mapChans Channel.enterConfig (setMode .config s))

/-- The transition is complete when no mark is yes (R142). A report outside a transition mode has no
effect. -/
def transitionReport (s : State) : State :=
  if s.noMarks then
    match s.ctl.mode with
    | .enteringRun => completeRun s
    | .enteringSafe => completeSafe s
    | .enteringConfig => completeConfig s
    | .config | .run | .safe => s
  else s

/-! ### Starting a transition -/

/-- ENTERING_RUN (R143, R145): rest drives with marks for the configured channels not in FAULT; with no
mark to wait for, the transition is complete in this event. -/
def beginRun (s : State) : State :=
  transitionReport (requestTransitionDrives (·.rest) (setMode .enteringRun s))

/-- A configured channel not in FAULT leaves its cadence as the mode leaves RUN; every queue is emptied
(R32, R55, R76, R146). -/
def Channel.leaveRun (x : Channel) : Channel :=
  match x.desc with
  | some d =>
    if x.state = .fault then { x with queue := [] }
    else { x.leaveCadence .safed d.safe with queue := [] }
  | none => { x with queue := [] }

/-- The mode leaves RUN for a transition mode (R146): the stalled write given up, queues emptied, groups
cleared, channels SAFED, heartbeat DISARMED, safe drives requested with marks. -/
def leaveRun (next : Mode) (s : State) : State :=
  transitionReport <| requestTransitionDrives (·.safe) <| setHeartbeat none <| clearGroups <|
    mapChans Channel.leaveRun <| setMode next <| giveUpStall (fun _ => true) s

/-- RUN left for ENTERING_SAFE with a cause (R146, R147, R148, R152). -/
def leaveRunToSafe (cause : SafeCause) (s : State) : State :=
  leaveRun .enteringSafe (setSafeCause cause s)

/-- SAFE# low as the mode controller acts on its fall (R148). -/
def actOnSafeLow (s : State) : State :=
  match s.ctl.mode with
  | .run => leaveRunToSafe .safeLine s
  | .enteringRun =>
    transitionReport <| requestTransitionDrives (·.safe) <| setMode .enteringSafe <|
      setSafeCause .safeLine s
  | .config | .enteringSafe | .safe | .enteringConfig => s

/-! ### The meanings -/

/-- START (R143). -/
def execStart (payload : List Byte) (s : State) : Host.Outcome State Fault Refusal :=
  .next <| takeRequest 0 .configOnly payload s <|
    if s.pins.safeHigh then respond .accepted [] (arbitrate (beginRun s))
    else respond .safeLine [] s

/-- STOP (R150): from RUN through ENTERING_CONFIG, from SAFE at once. -/
def execStop (payload : List Byte) (s : State) : Host.Outcome State Fault Refusal :=
  .next <| takeRequest 0 .runOrSafe payload s <|
    if s.ctl.mode = .run then respond .accepted [] (arbitrate (leaveRun .enteringConfig s))
    else respond .ok [] (completeConfig s)

/-- ENTER_SAFE (R147): in SAFE it is answered OK and changes nothing. -/
def execEnterSafe (payload : List Byte) (s : State) : Host.Outcome State Fault Refusal :=
  .next <| takeRequest 0 .runOrSafe payload s <|
    if s.ctl.mode = .run then respond .accepted [] (arbitrate (leaveRunToSafe .command s))
    else respond .ok [] s

/-- RESUME (R145). -/
def execResume (payload : List Byte) (s : State) : Host.Outcome State Fault Refusal :=
  .next <| takeRequest 0 .safeOnly payload s <|
    if s.pins.safeHigh then respond .accepted [] (arbitrate (beginRun s))
    else respond .safeLine [] s

/-- The heartbeat expiry, if it is due (R152): HEARTBEAT_LOST first, then the mode leaves RUN. -/
def heartbeatExpires (s : State) : State :=
  s.onEvent (s.ctl.mode == .run && isDue s.ctl.heartbeat) <|
    arbitrate (leaveRunToSafe .heartbeat (record .heartbeatLost none none none none s))

/-- HEARTBEAT_EXPIRY (R152). -/
def execHeartbeatExpiry (s : State) : Host.Outcome State Fault Refusal := .next (heartbeatExpires s)

/-- The level of SAFE# set at its pin. -/
def setSafePin (high : Bool) (s : State) : State := { s with pins := { s.pins with safeHigh := high } }

/-- SAFE_LINE_FALL (R148). While the part takes no events only the pin changes (R157, R195). -/
def execSafeLineFall (s : State) : Host.Outcome State Fault Refusal :=
  .next <|
    if s.live && s.pins.safeHigh then arbitrate (actOnSafeLow (setSafePin false s))
    else setSafePin false s

/-- SAFE_LINE_RISE (R148): no effect in any mode beyond the level of the pin. -/
def execSafeLineRise (s : State) : Host.Outcome State Fault Refusal := .next (setSafePin true s)

/-- ENTERING_RUN_COMPLETE (R144): no transition mark is set in ENTERING_RUN. -/
def execEnteringRunComplete (s : State) : Host.Outcome State Fault Refusal :=
  .next (s.onEvent (s.ctl.mode == .enteringRun && s.noMarks) (completeRun s))

/-- ENTERING_SAFE_COMPLETE (R149). -/
def execEnteringSafeComplete (s : State) : Host.Outcome State Fault Refusal :=
  .next (s.onEvent (s.ctl.mode == .enteringSafe && s.noMarks) (completeSafe s))

/-- ENTERING_CONFIG_COMPLETE (R150). -/
def execEnteringConfigComplete (s : State) : Host.Outcome State Fault Refusal :=
  .next (s.onEvent (s.ctl.mode == .enteringConfig && s.noMarks) (completeConfig s))

end Sys2Proof.Machine
end

