-- ==== Sys2Proof/Machine/Train.lean ====
section
/-! DEFINITION. The TRAIN machine (chapter 4) and the meanings of its events: TRAIN_HEAD_TAKE,
MARK_EXPIRY, SPACE_EXPIRY, PAUSE_EXPIRY and TRAIN_RECOVERY_END. -/

namespace Sys2Proof.Machine

/-- A head TRAIN(n) in RESTING: MARK when no token is needed or it is free, else WAITING (R60, R80). -/
def startTrain (c : Chan) (d : Descriptor) (p : TrainPart) (n : Byte) (s : State) : State :=
  if s.tokenFree d.group then enterMark c p n.toNat (takeToken c d.group s)
  else enterWaiting c n (joinWaiters c d.group s)

/-- A head PAUSE(k) in RESTING: the pause timer starts at once, k pause units long (R61). -/
def startPause (c : Chan) (p : TrainPart) (k : Byte) : State → State :=
  modChan c fun x => { x with
    state := .pausing, pauseTimer := startTimer (k.toNat * p.pauseUnit.toNat) }

/-- The action on a TRAIN or PAUSE head already removed (R60, R61). No SET entry is in a TRAIN queue. -/
def actOnTrainEntry (c : Chan) (d : Descriptor) (p : TrainPart) (e : Entry) (s : State) : State :=
  match e.kind with
  | .train => startTrain c d p e.operand s
  | .pause => startPause c p e.operand s
  | .set => s

/-- The one head a RESTING TRAIN channel takes in an event, with the re-examination of a write held on
its queue (R29, R59). -/
def takeTrainHead (c : Chan) (d : Descriptor) (p : TrainPart) (s : State) : State :=
  match (s.chan c).queue with
  | [] => s
  | e :: _ =>
    if (s.chan c).state = .resting then reexamine c (actOnTrainEntry c d p e (dropHead c s)) else s

/-- The rest drive that ends a mark, with the state that follows it (R65). -/
def leaveMark (c : Chan) (d : Descriptor) (f : Channel → Channel) (s : State) : State :=
  requestDrive c d.rest (modChan c (fun x => f { x with target := some d.rest, markTimer := none }) s)

/-- The mark is over (R65): RECOVERING after an abort, or after the last mark with TRAIN_DONE; else
SPACE. -/
def endMark (c : Chan) (d : Descriptor) (s : State) : State :=
  let x := s.chan c
  let toRecovery (x : Channel) : Channel :=
    { x with state := .recovering, marks := 0, trainCount := 0, abortPending := false, recovery := none }
  if x.abortPending then leaveMark c d toRecovery s
  else if x.marks - 1 = 0 then
    leaveMark c d toRecovery (recordChannel .trainDone c (BitVec.ofNat 8 x.trainCount) s)
  else leaveMark c d (fun x => { x with state := .space, marks := x.marks - 1, spaceTimer := none }) s

/-- The space is over (R66): MARK again with the marks and the train count kept. -/
def endSpace (c : Chan) (p : TrainPart) (s : State) : State :=
  requestDrive c p.markValue <|
    modChan c (fun x => { x with
      state := .mark, target := some p.markValue, abortPending := false, spaceTimer := none,
      markTimer := none }) s

/-- The pause is over (R61): RESTING, and the next head taken. -/
def endPause (c : Chan) (d : Descriptor) (p : TrainPart) (s : State) : State :=
  takeTrainHead c d p (modChan c (fun x => { x with state := .resting, pauseTimer := none }) s)

/-- The end of a recovery, in the order of R68: timer stopped, token given back, RESTING, head taken. -/
def endTrainRecovery (c : Chan) (d : Descriptor) (p : TrainPart) (s : State) : State :=
  takeTrainHead c d p <|
    modChan c (fun x => { x with state := .resting }) <|
      releaseToken c (modChan c (fun x => { x with recovery := none }) s)

/-- The latest completion at the TRAIN machine (R64): it starts the timer its state waits for. -/
def trainCompletion (c : Chan) (d : Descriptor) (p : TrainPart) : State → State :=
  modChan c fun x =>
    if x.state = .mark ∧ x.markTimer = none then
      { x with markTimer := startTimer p.markTime.toNat }
    else if x.state = .space ∧ x.spaceTimer = none then
      { x with spaceTimer := startTimer p.spaceTime.toNat }
    else if x.state = .recovering ∧ x.recovery = none then
      { x with recovery := startTimer d.gap.toNat }
    else x

/-- The descriptor and the TRAIN part of a TRAIN channel. -/
def Channel.trainDesc (x : Channel) : Option (Descriptor × TrainPart) :=
  x.desc.bind fun d =>
    match d.kind with
    | .train p => some (d, p)
    | .hold _ => none

/-- An event of a configured TRAIN channel in RUN, under a condition on its record, followed by the
arbiter's choice. -/
def onTrain (c : Chan) (condition : Channel → Bool) (body : Descriptor → TrainPart → State → State)
    (s : State) : State :=
  match (s.chan c).trainDesc with
  | none => s
  | some (d, p) => s.onEvent (s.ctl.mode == .run && condition (s.chan c)) (arbitrate (body d p s))

/-- The take that follows an append (R30, R59), if a head waits in RESTING. -/
def trainHeadTakes (c : Chan) : State → State :=
  onTrain c (fun x => x.state == .resting && !x.queue.isEmpty) (takeTrainHead c)

/-- TRAIN_HEAD_TAKE (R30, R59). -/
def execTrainHeadTake (c : Chan) (s : State) : Host.Outcome State Fault Refusal :=
  .next (trainHeadTakes c s)

/-- The mark expiry, if it is due (R65). -/
def markExpires (c : Chan) : State → State :=
  onTrain c (fun x => x.state == .mark && isDue x.markTimer) (fun d _ => endMark c d)

/-- The space expiry, if it is due (R66). -/
def spaceExpires (c : Chan) : State → State :=
  onTrain c (fun x => x.state == .space && isDue x.spaceTimer) (fun _ p => endSpace c p)

/-- The pause expiry, if it is due (R61). -/
def pauseExpires (c : Chan) : State → State :=
  onTrain c (fun x => x.state == .pausing && isDue x.pauseTimer) (endPause c)

/-- The end of a TRAIN recovery, if its timer is due (R68). -/
def trainRecoveryEnds (c : Chan) : State → State :=
  onTrain c (fun x => x.state == .recovering && isDue x.recovery) (endTrainRecovery c)

/-- MARK_EXPIRY (R65). -/
def execMarkExpiry (c : Chan) (s : State) : Host.Outcome State Fault Refusal :=
  .next (markExpires c s)

/-- SPACE_EXPIRY (R66). -/
def execSpaceExpiry (c : Chan) (s : State) : Host.Outcome State Fault Refusal :=
  .next (spaceExpires c s)

/-- PAUSE_EXPIRY (R61). -/
def execPauseExpiry (c : Chan) (s : State) : Host.Outcome State Fault Refusal :=
  .next (pauseExpires c s)

/-- TRAIN_RECOVERY_END (R68). -/
def execTrainRecoveryEnd (c : Chan) (s : State) : Host.Outcome State Fault Refusal :=
  .next (trainRecoveryEnds c s)

end Sys2Proof.Machine
end

