-- ==== Sys2Proof/Machine/Drive.lean ====
section
/-! DEFINITION. The ends of a drive write (chapter 6) and the meanings of DRIVE_ISSUE,
DRIVE_COMPLETION, DRIVE_TIMEOUT and GRANT. -/

namespace Sys2Proof.Machine

/-- The latest completion delivered to the channel's cadence machine (R45, R64, R101). -/
def cadenceCompletion (c : Chan) (s : State) : State :=
  match (s.chan c).desc with
  | none => s
  | some d =>
    match d.kind with
    | .hold p => holdCompletion c d p s
    | .train p => trainCompletion c d p s

/-- The transition mark tested at the end of a drive write, after all else in the event: it becomes no
when the slot is empty (R103). -/
def updateMark (c : Chan) : State → State :=
  modChan c fun x => if x.slot.isNone then { x with transitionMark := false } else x

/-- What every end of a drive write of channel `c` comes to last: the mark, the report of the
transition's end, and the next cycle on the bus (R97, R103, R142). -/
def endDrive (c : Chan) (s : State) : State := arbitrate (transitionReport (updateMark c s))

/-- Steps 2 to 4 of R101 for an attached drive write. The completion is the latest when the slot was
empty before any machine acted on it. -/
def creditCompletion (f : InFlight) (s : State) : State :=
  let t := modComparison f.channel (fun fb k => k.completion fb f.value) <|
    modChan f.channel (fun x => { x with driven := some f.value }) s
  if (s.chan f.channel).slot = none then cadenceCompletion f.channel t else t

/-- The modes in which an attached drive timeout faults its channel (R105). -/
def timeoutFaults (m : Mode) : Bool :=
  m == .run || m == .enteringRun || m == .safe || m == .enteringSafe

/-- Steps 3 and 4 of R104 for an attached drive write: driven value absent, comparison UNKNOWN (R136),
and the entry to FAULT with its one retry (R105). -/
def chargeTimeout (f : InFlight) (s : State) : State :=
  let t := modComparison f.channel (fun _ _ => .unknown) <|
    modChan f.channel (fun x => { x with driven := none }) s
  if timeoutFaults s.ctl.mode ∧ (s.chan f.channel).state ≠ .fault then
    faultChannel f.channel .driveTimeout t
  else t

/-- DRIVE_ISSUE (R97): the arbiter at a free bus issues the drive of the lowest-numbered channel, when
its turn it is. Every event that frees the bus or requests a drive makes this choice itself (R93, R96),
so a state reached from reset leaves it nothing to issue (notes/assumptions/3.md). -/
def execDriveIssue (s : State) : Host.Outcome State Fault Refusal :=
  .next <| s.onEvent
    (s.down.bus == .idle && s.lowestPending.isSome &&
      !(s.port.state == .passWait && s.down.burst == Config.burstLimit))
    (arbitrate s)

/-- DRIVE_COMPLETION (R101): a drive write in flight completes. -/
def execDriveCompletion (s : State) : Host.Outcome State Fault Refusal :=
  .next <|
    match s.down.bus with
    | .drive f =>
      s.onEvent true <| endDrive f.channel <|
        (if f.attached then creditCompletion f else id) (freeBus s)
    | .idle | .pass => s

/-- DRIVE_TIMEOUT (R104): the downstream timer of a drive write expires. -/
def execDriveTimeout (s : State) : Host.Outcome State Fault Refusal :=
  .next <|
    match s.down.bus with
    | .drive f =>
      s.onEvent true <| endDrive f.channel <|
        (if f.attached then chargeTimeout f else id)
          (recordChannel .driveTimeout f.channel f.value (freeBus s))
    | .idle | .pass => s

/-- GRANT (R82): the head waiter of a group whose token has been given back is granted it. The releases
of R82 and R86 make this grant themselves (notes/assumptions/3.md). -/
def execGrant (g : Group) (s : State) : Host.Outcome State Fault Refusal :=
  .next <| s.onEvent ((s.group g).holder.isNone && !(s.group g).waiters.isEmpty)
    (arbitrate (passToken g s))

end Sys2Proof.Machine
end

