-- ==== Sys2Proof/Decode.lean ====
section
/-! DEFINITION. `decodeTableWord` over the opcode table, which gives no row any bits, and the request
frames of the management port: CRC-8, the tests of R176 that need no state, and the command that a run
of request bytes spells (R174, R175, R176, R183, R189). -/

namespace Sys2Proof

/-- The command a word spells by the table's bits: no row of spec/opcode_table.json gives bits, so no
word spells one. -/
def decodeTableWord (_nbits _w : Nat) : Option Instr := none

/-- One bit of the CRC-8 division by x^8 + x^2 + x + 1 (R175). -/
def crcShift (r : Byte) : Byte :=
  if r.msb then (r <<< 1) ^^^ 0x07#8 else r <<< 1

/-- One byte of the CRC, most significant bit first (R175). -/
def crcByte (r b : Byte) : Byte :=
  crcShift (crcShift (crcShift (crcShift (crcShift (crcShift (crcShift (crcShift (r ^^^ b))))))))

/-- The CRC-8 of a run of bytes, initial value 00h, not inverted (R175). -/
def crc8 (bytes : List Byte) : Byte := bytes.foldl crcByte 0x00#8

/-- The command a code names, with its payload (R183): none for an undefined code. -/
def commandOf (code : Byte) (payload : List Byte) : Option Instr :=
  match code.toNat with
  | 0x01 => some (.getInfo payload)
  | 0x02 => some (.getStatus payload)
  | 0x10 => some (.setDevice payload)
  | 0x11 => some (.setChannel payload)
  | 0x12 => some (.clearChannel payload)
  | 0x13 => some (.getChannel payload)
  | 0x20 => some (.start payload)
  | 0x21 => some (.stop payload)
  | 0x22 => some (.enterSafe payload)
  | 0x23 => some (.resume payload)
  | 0x30 => some (.clearFault payload)
  | 0x31 => some (.purge payload)
  | 0x32 => some (.queueWrite payload)
  | 0x40 => some (.readEvents payload)
  | 0x41 => some (.readFlags payload)
  | 0x42 => some (.setEnables payload)
  | 0x7F => some (.resetDevice payload)
  | _ => none

/-- The code and payload of a management command (R183), none for every other command. -/
def codeAndPayload : Instr → Option (Byte × List Byte)
  | .getInfo p => some (0x01#8, p)
  | .getStatus p => some (0x02#8, p)
  | .setDevice p => some (0x10#8, p)
  | .setChannel p => some (0x11#8, p)
  | .clearChannel p => some (0x12#8, p)
  | .getChannel p => some (0x13#8, p)
  | .start p => some (0x20#8, p)
  | .stop p => some (0x21#8, p)
  | .enterSafe p => some (0x22#8, p)
  | .resume p => some (0x23#8, p)
  | .clearFault p => some (0x30#8, p)
  | .purge p => some (0x31#8, p)
  | .queueWrite p => some (0x32#8, p)
  | .readEvents p => some (0x40#8, p)
  | .readFlags p => some (0x41#8, p)
  | .setEnables p => some (0x42#8, p)
  | .resetDevice p => some (0x7F#8, p)
  | .badCommand _ | .transactionOpen | .transactionClose | .heldSetChannelAccept
  | .governedRead _ | .governedWrite _ _ | .passThroughArrival _ _ | .invalidCycle _
  | .hostCycleInReset _ _ _ | .hostCycleEnd | .passThroughIssue | .passThroughCompletion _
  | .passTimeout | .driveIssue | .driveCompletion | .driveTimeout | .stallTimeout
  | .stallReexamine | .holdHeadTake _ | .trainHeadTake _ | .minHoldExpiry _ | .maxHoldExpiry _
  | .holdRecoveryEnd _ | .markExpiry _ | .spaceExpiry _ | .pauseExpiry _ | .trainRecoveryEnd _
  | .grant _ | .settleExpiry _ | .filterExpiry _ | .senseChange _ _ | .heartbeatExpiry
  | .safeLineFall | .safeLineRise | .resetAssert | .resetRelease | .supplyFall
  | .enteringRunComplete | .enteringSafeComplete | .enteringConfigComplete | .timestampTick
  | .supplyWithinRange | .clkStops | .clkRunsAgain | .syncByteSent | .responseCrcSent => none

/-- The part of the received bytes that makes the complete request frame (R174): two bytes when the
length is above 40, else L + 3; none while the frame is not complete. -/
def frameOf (bytes : List Byte) : Option (List Byte) :=
  match bytes with
  | code :: len :: _ =>
    if Config.maxPayload < len.toNat then some [code, len]
    else if len.toNat + 3 ≤ bytes.length then some (bytes.take (len.toNat + 3))
    else none
  | _ => none

/-- The payload of a complete frame that is read further (R189). -/
def framePayload (frame : List Byte) : List Byte := (frame.drop 2).dropLast

/-- Tests 1 to 3 of R176 on a complete frame, in their order: the status of the first that fails. -/
def frameRefusal (frame : List Byte) : Option Status :=
  if Config.maxPayload < (frame.getD 1 0).toNat then some .badLength
  else if crc8 frame.dropLast ≠ frame.getLastD 0 then some .badCrc
  else if (commandOf (frame.getD 0 0) (framePayload frame)).isNone then some .badCommand
  else none

/-- The command that the bytes received in one transaction spell: none until the frame is complete
(R174), `badCommand` for a frame that fails a test of R176, else the command its code names. Bytes
after the frame are not read. -/
def decodeRequest (bytes : List Byte) : Option Instr :=
  match frameOf bytes with
  | none => none
  | some frame =>
    if (frameRefusal frame).isSome then some (.badCommand frame)
    else commandOf (frame.getD 0 0) (framePayload frame)

/-- The request frame of a management command (R189): code, length, payload, CRC. A `badCommand` is
its own frame; the other commands are not sent in a frame. -/
def encodeRequest (i : Instr) : Option (List Byte) :=
  match i with
  | .badCommand frame => some frame
  | _ =>
    match codeAndPayload i with
    | some (code, payload) =>
      let body := code :: BitVec.ofNat 8 payload.length :: payload
      some (body ++ [crc8 body])
    | none => none

end Sys2Proof
end

