-- ==== Sys2Proof/Machine/Layouts.lean ====
section
/-! DEFINITION. The byte layouts of the responses: the status codes, the response frame, the information
and status blocks, the channel block and the event records (R181, R184, R189 to R193). -/

namespace Sys2Proof.Machine

/-- A two-byte number, most significant byte first. -/
def halfBytes (h : Half) : List Byte := [h.extractLsb' 8 8, h.extractLsb' 0 8]

/-- A three-byte address, most significant byte first. -/
def addrBytes (a : Addr) : List Byte := [a.extractLsb' 16 8, a.extractLsb' 8 8, a.extractLsb' 0 8]

/-- A four-byte number, most significant byte first. -/
def longBytes (t : Long) : List Byte :=
  [t.extractLsb' 24 8, t.extractLsb' 16 8, t.extractLsb' 8 8, t.extractLsb' 0 8]

/-- A number of a layout as one byte. -/
def natByte (n : Nat) : Byte := BitVec.ofNat 8 n

/-- An absent byte is sent as 00h (R191, R192). -/
def optByte (v : Option Byte) : Byte := v.getD 0

/-- A presence or level bit as a byte with that bit at place `n`. -/
def bitByte (b : Bool) (n : Nat) : Byte := if b then BitVec.ofNat 8 (2 ^ n) else 0

/-- The value of a status code (R181). -/
def statusCode : Status → Byte
  | .ok => 0x00#8
  | .accepted => 0x01#8
  | .badCrc => 0x10#8
  | .badCommand => 0x11#8
  | .badLength => 0x12#8
  | .wrongMode => 0x20#8
  | .busy => 0x21#8
  | .badField => 0x30#8
  | .badChannel => 0x31#8
  | .notConfigured => 0x32#8
  | .notFaulted => 0x33#8
  | .safeLine => 0x34#8
  | .conflict => 0x35#8
  | .full => 0x36#8
  | .blocked => 0x37#8

/-- The response frame on MSO (R177, R189): sync, status, length, payload, CRC over all but the sync. -/
def responseFrame (r : Response) : List Byte :=
  let body := statusCode r.status :: natByte r.payload.length :: r.payload
  0xA5#8 :: body ++ [crc8 body]

/-- The information block (R184). -/
def infoBlock : List Byte := [0x55#8, 0x01#8, 0x10#8, 0x08#8, 0x04#8, 0x20#8]

/-- The code of a safe cause, 00h for absent (R190). -/
def causeCode : Option SafeCause → Byte
  | none => 0
  | some .command => 1
  | some .heartbeat => 2
  | some .safeLine => 3

/-- The flag word: the 15 flags or enables in bits 0 to 14, bit 15 zero (R193). -/
def flagWord (flags : BitVec 15) : Half := flags.setWidth 16

/-- The heartbeat remaining of GET_STATUS: whole milliseconds before the earliest expiry, 0 while
DISARMED (R151). A timer with k ticks to come expires no earlier than k - 1 ms from now (R155). -/
def heartbeatRemaining (s : State) : Nat :=
  match s.ctl.heartbeat with
  | none => 0
  | some k => k - 1

/-- The status block (R190). -/
def statusBlock (s : State) : List Byte :=
  [modeCode s.ctl.mode, causeCode s.ctl.lastSafeCause, bitByte s.pins.safeHigh 0,
   natByte s.ev.queue.length] ++
  halfBytes (flagWord s.ev.flags) ++ halfBytes (flagWord s.ev.enables) ++
  longBytes s.ctl.timestamp ++ [natByte s.configuredCount] ++
  halfBytes (BitVec.ofNat 16 (heartbeatRemaining s))

/-- The code of a channel state (R191). -/
def stateCode : ChanState → Byte
  | .unconfigured => 0x00#8
  | .safed => 0x01#8
  | .resting => 0x02#8
  | .waiting => 0x03#8
  | .holding => 0x04#8
  | .held => 0x05#8
  | .mark => 0x06#8
  | .space => 0x07#8
  | .pausing => 0x08#8
  | .recovering => 0x09#8
  | .fault => 0x0A#8

/-- Bytes 3 and 11 to 17 of a descriptor, by kind: bytes not stored are 00h (R189). -/
def kindByte : KindPart → Byte
  | .hold _ => 0x00#8
  | .train _ => 0x01#8

def kindBytes : KindPart → List Byte
  | .hold p => halfBytes p.minHold ++ halfBytes p.maxHold ++ [0, 0, 0]
  | .train p => p.markValue :: halfBytes p.markTime ++ halfBytes p.spaceTime ++ halfBytes p.pauseUnit

/-- Bytes 18 to 21 of a descriptor (R189). -/
def feedbackBytes : Option FeedbackPart → List Byte
  | none => [0, 0, 0, 0]
  | some f => [0x01#8, natByte f.senseBit.val, bitByte f.invert 0, f.settleTime]

/-- The 22 descriptor bytes that GET_CHANNEL returns (R189). -/
def descriptorBytes (d : Descriptor) : List Byte :=
  addrBytes d.target ++ [kindByte d.kind, d.safe, d.rest] ++ halfBytes d.gap ++
  [match d.group with
    | none => 0
    | some g => natByte (g.val + 1),
   match d.policy with
    | .stall => 0
    | .discard => 1,
   match d.view with
    | .driven => 0
    | .commanded => 1] ++
  kindBytes d.kind ++ feedbackBytes d.feedback

/-- The code of a last fault cause (R191). -/
def faultCode : Option LastFault → Byte
  | none => 0
  | some f =>
    match f.cause with
    | .feedback => 1
    | .driveTimeout => 2

/-- A queue entry: kind in bits 1 and 0, origin in bit 7, then the operand (R191). -/
def entryBytes (e : Entry) : List Byte :=
  [(match e.kind with
    | .set => 1
    | .train => 2
    | .pause => 3) ||| bitByte (e.origin == .mgmt) 7,
   e.operand]

/-- The indicators of a status record (R191). -/
def indicators (s : State) (c : Chan) : Byte :=
  let x := s.chan c
  bitByte x.target.isSome 0 ||| bitByte x.driven.isSome 1 ||| bitByte x.requested.isSome 2 |||
  bitByte (s.waiterPosition c).isSome 3 ||| bitByte x.lastFault.isSome 4 |||
  bitByte (s.tokenHeld c) 5 ||| bitByte x.abortPending 6 ||| bitByte x.stuckReported 7

/-- The status record (R191). -/
def recordBytes (s : State) (c : Chan) : List Byte :=
  let x := s.chan c
  [stateCode x.state, indicators s c, optByte x.target, optByte x.driven, optByte x.requested,
   natByte x.marks, natByte ((s.waiterPosition c).getD 0), faultCode x.lastFault] ++
  longBytes (match x.lastFault with
    | none => 0
    | some f => f.timestamp) ++
  [natByte x.queue.length] ++ (x.queue.map entryBytes).flatten

/-- The channel block of GET_CHANNEL (R191). -/
def channelBlock (s : State) (c : Chan) : List Byte :=
  match (s.chan c).desc with
  | none => [natByte c.val, 0x00#8] ++ recordBytes s c
  | some d => [natByte c.val, 0x01#8] ++ descriptorBytes d ++ recordBytes s c

/-- An event record (R192). -/
def eventBytes (r : EventRecord) : List Byte :=
  halfBytes r.sequence ++ longBytes r.timestamp ++
  [natByte (kindCode r.kind),
   bitByte r.channel.isSome 0 ||| bitByte r.value.isSome 1 ||| bitByte r.address.isSome 2 |||
     bitByte r.cause.isSome 3,
   (match r.channel with
    | none => 0
    | some c => natByte c.val),
   optByte r.value] ++
  addrBytes (r.address.getD 0) ++ [causeCode r.cause]

/-- The READ_EVENTS payload: a count, then the records, head first (R192). -/
def eventsPayload (records : List EventRecord) : List Byte :=
  natByte records.length :: (records.map eventBytes).flatten

end Sys2Proof.Machine
end

