-- ==== Sys2Proof/Machine/Table.lean ====
section
/-! DEFINITION. The channel table's commands (chapter 1): SET_CHANNEL with its hold-back, CLEAR_CHANNEL,
GET_CHANNEL and HELD_SET_CHANNEL_ACCEPT. -/

namespace Sys2Proof.Machine

/-- A drive write in flight for channel `c` becomes detached (R95). -/
def detach (c : Chan) (s : State) : State :=
  match s.down.bus with
  | .drive f =>
    if f.channel = c then { s with down := { s.down with bus := .drive { f with attached := false } } }
    else s
  | .idle => s
  | .pass => s

/-- The status record, machine and comparison record of a channel at the acceptance of its SET_CHANNEL
(R10, R37, R58, R126): last fault is unchanged, and the slot holds the new safe drive (R95). -/
def configured (d : Descriptor) (x : Channel) : Channel :=
  { Channel.empty with
    desc := some d, state := .safed, target := some d.safe, lastFault := x.lastFault,
    cmp := d.feedback.map fun _ => .unknown, slot := some d.safe, transitionMark := x.transitionMark }

/-- A SET_CHANNEL accepted (R10 to R12): a drive in flight detached, the record set, the safe drive
requested, and no request pending. -/
def acceptSetChannel (c : Chan) (d : Descriptor) (s : State) : State :=
  let t := modChan c (configured d) (detach c s)
  { t with mgmt := { t.mgmt with pendingSet := none } }

/-- A pass-through host cycle to address `a` is in progress, waiting or on the bus (R11). -/
def passInProgressTo (a : Addr) (s : State) : Bool :=
  (s.port.state == .passWait || s.port.state == .passOn) && s.port.cycle.any (·.address == a)

/-- The held-back SET_CHANNEL accepted, when it waits for no cycle any more; its OK is ready if its
transaction is still open, else it is lost (R178, R179). -/
def acceptHeld (s : State) : State :=
  match s.mgmt.pendingSet with
  | none => s
  | some q =>
    if passInProgressTo q.descriptor.target s then s
    else
      let t := acceptSetChannel q.channel q.descriptor s
      if s.mgmt.phase = .pending then respond .ok [] t else t

/-- SET_CHANNEL past the checks of R6 to R8: accepted, or made the pending request behind a
pass-through cycle to its new address (R11, R179). -/
def takeSetChannel (c : Chan) (d : Descriptor) (s : State) : State :=
  if passInProgressTo d.target s then
    { s with
      mgmt := { s.mgmt with
        phase := .pending, response := none, pendingSet := some { channel := c, descriptor := d } } }
  else respond .ok [] (arbitrate (acceptSetChannel c d s))

/-- SET_CHANNEL (R6 to R12, R179). -/
def execSetChannel (payload : List Byte) (s : State) : Host.Outcome State Fault Refusal :=
  .next <| takeRequest 23 .configOnly payload s <| withChannel payload s fun c =>
    let bytes := payload.drop 1
    match descriptorFailure bytes with
    | some index => respondBadField index s
    | none =>
      let d := descriptorOf bytes
      if targetConflicts c d.target s then respond .conflict [] s else takeSetChannel c d s

/-- CLEAR_CHANNEL (R13): the slot loses its descriptor and its pending drive, a drive in flight is
detached, and last fault stays. -/
def execClearChannel (payload : List Byte) (s : State) : Host.Outcome State Fault Refusal :=
  .next <| takeRequest 1 .configOnly payload s <| withChannel payload s fun c =>
    match (s.chan c).desc with
    | none => respond .notConfigured [] s
    | some _ =>
      respond .ok [] <| modChan c (fun x =>
        { Channel.empty with lastFault := x.lastFault, transitionMark := x.transitionMark }) (detach c s)

/-- GET_CHANNEL (R187). -/
def execGetChannel (payload : List Byte) (s : State) : Host.Outcome State Fault Refusal :=
  .next <| takeRequest 1 .always payload s <| withChannel payload s fun c =>
    respond .ok (channelBlock s c) s

/-- HELD_SET_CHANNEL_ACCEPT (R179): the pending SET_CHANNEL is accepted when no pass-through cycle to its
new address is in progress. The end of that cycle makes this acceptance itself
(notes/assumptions/3.md). -/
def execHeldSetChannelAccept (s : State) : Host.Outcome State Fault Refusal :=
  .next <| s.onEvent
    (s.mgmt.pendingSet.any fun q => !passInProgressTo q.descriptor.target s)
    (arbitrate (acceptHeld s))

end Sys2Proof.Machine
end

