-- ==== Sys2Proof/Machine/HostBus.lean ====
section
/-! DEFINITION. The host bus port (chapter 7): the meanings of the host cycles, the pass-through cycle,
the stall, and the levels of the host and downstream pins that the port and the bus decide. -/

namespace Sys2Proof.Machine

/-- A host cycle arrived: the port holds its record (R108, R109). -/
def arrive (kind : CycleKind) (a : Addr) (data : Option Byte) (decode : Option HostDecode) (s : State) :
    State :=
  { s with
    port :=
      { HostPort.idle with
        cycle := some { kind, address := a, data, decode, ending := none, answer := none } } }

/-- The port holds no cycle, so one can arrive (R108). -/
def State.portIdle (s : State) : Bool := s.port.state == .idle

/-- The kind, the address and the data of a cycle, from the strobes asserted at its arrival (R108, R109). -/
def HostStrobes.kind : HostStrobes → CycleKind
  | .read _ => .read
  | .write _ _ => .write
  | .invalid _ => .invalid

def HostStrobes.address : HostStrobes → Addr
  | .read a | .write a _ | .invalid a => a

def HostStrobes.data : HostStrobes → Option Byte
  | .read _ | .invalid _ => none
  | .write _ v => some v

/-- The strobes of a cycle of a kind. -/
def strobesOf (kind : CycleKind) (a : Addr) (v : Byte) : HostStrobes :=
  match kind with
  | .read => .read a
  | .write => .write a v
  | .invalid => .invalid a

/-- The host strobes are asserted: for the cycle the port holds, or, after a change while CLK is stopped,
as they then show. -/
def State.strobesAsserted (s : State) : Bool :=
  match s.pins.strobes with
  | none => !s.portIdle && !s.port.released
  | some m => m.isSome

/-- The host strobes change while CLK is stopped (R195). -/
def showStrobes (m : Option HostStrobes) (s : State) : State :=
  { s with pins := { s.pins with strobes := some m } }

/-- The host asserts its strobes, under the condition of its row. At a port that holds no cycle the cycle
arrives (R108). With CLK stopped only the strobes change (R195). -/
def State.onArrival (s : State) (condition : Bool) (h : HostStrobes) (arrived : State) : State :=
  if !condition then s
  else if s.pins.clkRunning then if s.portIdle then arrived else s
  else if s.strobesAsserted then s else showStrobes (some h) s

/-- A read of channel `c` is answered at once from its read view (R116). -/
def governedReadArrives (a : Addr) (c : Chan) (s : State) : State :=
  answerHost .normal ((s.chan c).desc.map fun d => readView d (s.chan c))
    (arrive .read a none (some (.governed c)) s)

/-- GOVERNED_READ (R116). -/
def execGovernedRead (a : Addr) (s : State) : Host.Outcome State Fault Refusal :=
  .next <|
    match s.governed a with
    | none => s
    | some c =>
      s.onArrival (!s.heldInReset) (.read a) (governedReadArrives a c s)

/-- The write held: HWAIT# asserted, the stall timer started with the stall limit (R28, R119). -/
def stallHost (c : Chan) (v : Byte) (e : Entry) (s : State) : State :=
  { s with
    port := { s.port with
      state := .stalled, stallTimer := some s.ctl.stallLimit.toNat,
      held := some { channel := c, data := v, entry := e } } }

/-- A write examined by the queues, and what the port does with the result (R26 to R28, R118). -/
def handToQueues (c : Chan) (d : Descriptor) (v : Byte) (s : State) : State :=
  match examine c d v .host s with
  | (.meetsFull e, t) =>
    match d.policy with
    | .discard => answerHost .normal none (recordChannel .queueFull c v t)
    | .stall => stallHost c v e t
  | (.appended, t) => answerHost .normal none t
  | (.absorbed, t) => answerHost .normal none t
  | (.aborted, t) => answerHost .normal none t
  | (.refused, t) => answerHost .normal none t

/-- A write to channel `c`: blocked outside RUN and in FAULT, else handed to the queues (R117, R118). -/
def governedWriteArrives (a : Addr) (v : Byte) (c : Chan) (s : State) : State :=
  match (s.chan c).desc with
  | none => s
  | some d =>
    let t := arrive .write a (some v) (some (.governed c)) s
    if s.ctl.mode ≠ .run ∨ (s.chan c).state = .fault then
      answerHost .normal none (recordChannel .blockedWrite c v t)
    else handToQueues c d v t

/-- GOVERNED_WRITE (R117, R118). -/
def execGovernedWrite (a : Addr) (v : Byte) (s : State) : Host.Outcome State Fault Refusal :=
  .next <|
    match s.governed a with
    | none => s
    | some c =>
      s.onArrival (!s.heldInReset) (.write a v) (governedWriteArrives a v c s)

/-- The decode of a cycle to a non-governed address (R110). -/
def passDecode (a : Addr) (data : Option Byte) (s : State) : HostDecode :=
  if data.isSome ∧ a = s.ctl.heartbeatAddress then .passHeartbeat else .pass

/-- The strobes of a pass-through read or write. -/
def passStrobes (a : Addr) (data : Option Byte) : HostStrobes :=
  match data with
  | none => .read a
  | some v => .write a v

/-- A pass-through cycle arrives: the port enters PASS_WAIT and the cycle is presented to the arbiter,
which issues it at once on an IDLE bus (R110, R112). -/
def passArrives (a : Addr) (data : Option Byte) (s : State) : State :=
  let t := arrive (passStrobes a data).kind a data (some (passDecode a data s)) s
  arbitrate { t with port := { t.port with state := .passWait } }

/-- PASS_THROUGH_ARRIVAL (R110, R112). -/
def execPassThroughArrival (a : Addr) (data : Option Byte) (s : State) :
    Host.Outcome State Fault Refusal :=
  .next <| s.onArrival (!s.heldInReset && (s.governed a).isNone) (passStrobes a data)
    (passArrives a data s)

/-- A cycle with both strobes asserted is ended at once with HERR# and no event (R108). -/
def invalidArrives (a : Addr) (s : State) : State :=
  answerHost .error none (arrive .invalid a none none s)

/-- INVALID_CYCLE (R108). -/
def execInvalidCycle (a : Addr) (s : State) : Host.Outcome State Fault Refusal :=
  .next <| s.onArrival (!s.heldInReset) (.invalid a) (invalidArrives a s)

/-- A cycle that arrives while a reset holds the part: not decoded, answered at once with FFh for a read,
HERR# released, and held in ENDING (R125). -/
def arrivesInReset (h : HostStrobes) (s : State) : State :=
  answerHost .normal (if h.kind = .read then some 0xFF#8 else none) (arrive h.kind h.address h.data none s)

/-- HOST_CYCLE_IN_RESET (R125). -/
def execHostCycleInReset (kind : CycleKind) (a : Addr) (v : Byte) (s : State) :
    Host.Outcome State Fault Refusal :=
  let h := strobesOf kind a v
  .next <| s.onArrival s.heldInReset h (arrivesInReset h s)

/-- The port takes the end of its host's strobes: in ENDING it lets go of the cycle; a cycle not yet
answered goes on, and the port remembers that the host is gone (R108, R124). -/
def strobesReleased (s : State) : State :=
  match s.port.state with
  | .idle => s
  | .ending => { s with port := HostPort.idle }
  | .passWait | .passOn | .stalled => { s with port := { s.port with released := true } }

/-- HOST_CYCLE_END (R124), also while the part is held in reset (R125). With CLK stopped only the
strobes change (R195). -/
def execHostCycleEnd (s : State) : Host.Outcome State Fault Refusal :=
  .next <|
    if s.pins.clkRunning then strobesReleased s
    else if s.strobesAsserted then showStrobes none s else s

/-! ### The host strobes taken at the levels they show (R157, R195) -/

/-- A cycle asserted as `h` arrives at a port that holds none, and is decoded as every arrival (R108,
R110). -/
def arrives (h : HostStrobes) (s : State) : State :=
  match h with
  | .read a =>
    match s.governed a with
    | some c => governedReadArrives a c s
    | none => passArrives a none s
  | .write a v =>
    match s.governed a with
    | some c => governedWriteArrives a v c s
    | none => passArrives a (some v) s
  | .invalid a => invalidArrives a s

/-- The strobes that were asserted at the arrival of a cycle of kind `k` are all among those shown, so
that the host has not ended the cycle (R124). -/
def HostStrobes.keep (h : HostStrobes) (k : CycleKind) : Bool := h.kind == .invalid || h.kind == k

/-- The host strobes taken at the levels they show, when these have changed while CLK was stopped: the
cycle held goes on while they still hold it, else the host has ended it; and at a port that holds no cycle
the one they show arrives, by `arrival`. -/
def takeStrobes (arrival : HostStrobes → State → State) (s : State) : State :=
  match s.pins.strobes with
  | none => s
  | some m =>
    let t := { s with pins := { s.pins with strobes := none } }
    if !t.portIdle && m.any (fun h => t.port.cycle.any fun k => h.keep k.kind) then t
    else
      let u := strobesReleased t
      match m with
      | some h => if u.portIdle then arrival h u else u
      | none => u

/-! ### The pass-through cycle on the downstream bus -/

/-- PASS_THROUGH_ISSUE (R97): the arbiter at a free bus issues the waiting pass-through cycle, when its
turn it is (notes/assumptions/3.md). -/
def execPassThroughIssue (s : State) : Host.Outcome State Fault Refusal :=
  .next <| s.onEvent
    (s.down.bus == .idle && s.port.state == .passWait &&
      (s.lowestPending.isNone || s.down.burst == Config.burstLimit))
    (arbitrate s)

/-- The report of a completed heartbeat write restarts a running heartbeat timer in RUN (R114, R151). -/
def reportHeartbeat (s : State) : State :=
  if s.ctl.mode = .run ∧ s.ctl.heartbeat.isSome then
    { s with ctl := { s.ctl with heartbeat := startTimer s.ctl.heartbeatTimeout.toNat } }
  else s

/-- The end of a pass-through cycle at the channel table and the arbiter (R11, R97). -/
def endPass (s : State) : State := arbitrate (acceptHeld s)

/-- PASS_THROUGH_COMPLETION (R112, R114). -/
def execPassThroughCompletion (dd : Byte) (s : State) : Host.Outcome State Fault Refusal :=
  .next <|
    match s.port.cycle with
    | none => s
    | some k =>
      s.onEvent (s.down.bus == .pass && s.port.state == .passOn) <|
        let t := answerHost .normal (if k.kind = .read then some dd else none) (freeBus s)
        endPass (if k.decode = some .passHeartbeat then reportHeartbeat t else t)

/-- PASS_TIMEOUT (R113). -/
def execPassTimeout (s : State) : Host.Outcome State Fault Refusal :=
  .next <|
    match s.port.cycle with
    | none => s
    | some k =>
      s.onEvent (s.down.bus == .pass && s.port.state == .passOn) <|
        endPass <| record .passTimeout none none (some k.address) none <|
          answerHost .error (if k.kind = .read then some 0xFF#8 else none) (freeBus s)

/-! ### The stall -/

/-- STALL_TIMEOUT (R121): the held write dropped, and the host cycle ended with HERR#. -/
def execStallTimeout (s : State) : Host.Outcome State Fault Refusal :=
  .next <|
    match s.port.held with
    | none => s
    | some h =>
      s.onEvent (s.port.state == .stalled && s.port.stallTimer.isSome) <|
        answerHost .error none (recordChannel .stallTimeout h.channel h.data s)

/-- STALL_REEXAMINE (R120): a slot is free in the queue of the held write. Every event that frees the
slot makes this re-examination itself (notes/assumptions/3.md). -/
def execStallReexamine (s : State) : Host.Outcome State Fault Refusal :=
  .next <|
    match s.port.held with
    | none => s
    | some h => s.onEvent (s.port.state == .stalled) (arbitrate (reexamine h.channel s))

/-! ### The levels on the bus pins (R96, R100, R109, R112) -/

/-- HWAIT# asserted. -/
def State.hwait (s : State) : Bool :=
  s.port.state == .passWait || s.port.state == .passOn || s.port.state == .stalled

/-- HERR# asserted: an error end (R109, R124). -/
def State.herr (s : State) : Bool :=
  s.port.state == .ending && s.port.cycle.any (·.ending == some .error)

/-- The byte the port drives on HD0 to HD7, if it drives them (R109). -/
def State.hd (s : State) : Option Byte :=
  if s.port.state = .ending then s.port.cycle.bind (·.answer) else none

/-- The cycle on the downstream bus as its pins show it: address, and the byte written, none for a read
(R100, R112). DCS# is asserted with DWR# for a write and with DRD# for a read; no cycle, no strobe. -/
def State.downCycle (s : State) : Option (Addr × Option Byte) :=
  match s.down.bus with
  | .idle => none
  | .drive f => some (f.address, some f.value)
  | .pass => s.port.cycle.map fun k => (k.address, k.data)

end Sys2Proof.Machine
end

