-- ==== Sys2Proof/Machine/Reset.lean ====
section
/-! DEFINITION. The resets of the part (R107, R125, R157, R158, R172, R180) and the meanings of
RESET_ASSERT, RESET_RELEASE, SUPPLY_FALL and SUPPLY_WITHIN_RANGE. -/

namespace Sys2Proof.Machine

/-- The host bus port at a reset (R125): a cycle in progress is held in ENDING with a normal end, FFh
for a read, until the host ends it. -/
def HostPort.afterReset (p : HostPort) : HostPort :=
  match p.cycle with
  | none => .idle
  | some k =>
    if p.released then .idle
    else
      { HostPort.idle with
        state := .ending
        cycle := some { k with
          ending := some .normal, answer := if k.kind = .read then some 0xFF#8 else none } }

/-- The reset state applied to every block (R158), the input levels and the waiting commands being the
outside's. While MCS# is low the management port discards (R173, R180). -/
def resetPart (s : State) : State :=
  { State.reset with
    port := s.port.afterReset
    mgmt := { MgmtPort.reset with phase := if s.pins.mcsLow then .discarding else .closed }
    pins := s.pins
    pending := s.pending }

/-- The inputs as a part held in reset takes them: while MCS# is low the management port discards (R173,
R180), and a host cycle whose strobes are asserted is held in ENDING (R125). No other input acts on a part
in reset (R157). -/
def takeInputsInReset (s : State) : State :=
  takeStrobes arrivesInReset
    { s with mgmt := { s.mgmt with phase := if s.pins.mcsLow then .discarding else .closed } }

/-- The level of RESET# or of VCC has changed from `s` to `t`: at the release of the hold the inputs are
taken at the levels they then show (R157, R173, R180). SAFE# and SENSEn have no effect on the part that
leaves its reset (R148, R126). -/
def endHold (s t : State) : State :=
  if s.heldInReset && !t.heldInReset then takeInputsInReset t else t

/-- RESET_ASSERT (R157): the reset state is entered at the assertion, whether or not CLK runs (DEDUCED,
notes/assumptions/6.md). -/
def execResetAssert (s : State) : Host.Outcome State Fault Refusal :=
  .next <|
    if s.pins.resetLow then s
    else resetPart { s with pins := { s.pins with resetLow := true } }

/-- RESET_RELEASE (R157): the hold ends unless the supply holds it. -/
def execResetRelease (s : State) : Host.Outcome State Fault Refusal :=
  .next (endHold s { s with pins := { s.pins with resetLow := false } })

/-- SUPPLY_FALL (R157): VCC below its range holds the part in reset as RESET# does. -/
def execSupplyFall (s : State) : Host.Outcome State Fault Refusal :=
  .next <|
    if s.pins.supplyOk then resetPart { s with pins := { s.pins with supplyOk := false } } else s

/-- SUPPLY_WITHIN_RANGE (R157): the hold ends if RESET# is released. -/
def execSupplyWithinRange (s : State) : Host.Outcome State Fault Refusal :=
  .next (endHold s { s with pins := { s.pins with supplyOk := true } })

end Sys2Proof.Machine
end

