-- ==== Sys2Proof/Machine/Management.lean ====
section
/-! DEFINITION. The management port (chapter 11): the transaction, the response on MSO, and the meanings
of GET_INFO, GET_STATUS, SET_DEVICE, PURGE, QUEUE_WRITE, READ_EVENTS, READ_FLAGS, SET_ENABLES,
RESET_DEVICE, BAD_COMMAND, TRANSACTION_OPEN, TRANSACTION_CLOSE, SYNC_BYTE_SENT and
RESPONSE_CRC_SENT. -/

namespace Sys2Proof.Machine

/-! ### Commands -/

/-- GET_INFO (R184). -/
def execGetInfo (payload : List Byte) (s : State) : Host.Outcome State Fault Refusal :=
  .next (takeRequest 0 .always payload s (respond .ok infoBlock s))

/-- GET_STATUS (R185). -/
def execGetStatus (payload : List Byte) (s : State) : Host.Outcome State Fault Refusal :=
  .next (takeRequest 0 .always payload s (respond .ok (statusBlock s) s))

/-- The three settings stored together (R154). -/
def storeSettings (address : Addr) (timeout : Half) (stallLimit : Byte) (s : State) : State :=
  { s with
    ctl := { s.ctl with
      heartbeatAddress := address, heartbeatTimeout := timeout, stallLimit := stallLimit } }

/-- SET_DEVICE (R154). -/
def execSetDevice (payload : List Byte) (s : State) : Host.Outcome State Fault Refusal :=
  .next <| takeRequest 6 .configOnly payload s <|
    match settingsFailure payload with
    | some index => respondBadField index s
    | none =>
      if (s.governed (addrAt payload 0)).isSome then respond .conflict [] s
      else
        respond .ok [] (storeSettings (addrAt payload 0) (halfAt payload 3) (byteAt payload 5) s)

/-- PURGE (R31): the queue emptied, QUEUE_PURGED with the count, and a held write re-examined when
entries left (R29). -/
def execPurge (payload : List Byte) (s : State) : Host.Outcome State Fault Refusal :=
  .next <| takeRequest 1 .runOnly payload s <| withChannel payload s fun c =>
    if (s.chan c).desc.isNone then respond .notConfigured [] s
    else
      respond .ok [] <| reexamine c <|
        recordChannel .queuePurged c (BitVec.ofNat 8 (s.chan c).queue.length) (emptyQueue c s)

/-- A write of QUEUE_WRITE examined by the queues, and its status (R33). An ABORT frees the queue for a
held write (R29). -/
def queueWriteExamined (c : Chan) (d : Descriptor) (v : Byte) (s : State) : State :=
  match examine c d v .mgmt s with
  | (.meetsFull _, t) => respond .full [] (recordChannel .queueFull c v t)
  | (.refused, t) => respondBadField 2 t
  | (.aborted, t) => respond .ok [] (arbitrate (reexamine c t))
  | (.appended, t) => respond .ok [] t
  | (.absorbed, t) => respond .ok [] t

/-- QUEUE_WRITE (R33). -/
def execQueueWrite (payload : List Byte) (s : State) : Host.Outcome State Fault Refusal :=
  .next <| takeRequest 2 .runOnly payload s <| withChannel payload s fun c =>
    let v := byteAt payload 1
    match (s.chan c).desc with
    | none => respond .notConfigured [] (recordChannel .blockedWrite c v s)
    | some d =>
      if (s.chan c).state = .fault then respond .blocked [] (recordChannel .blockedWrite c v s)
      else queueWriteExamined c d v s

/-- READ_EVENTS (R168, R188). -/
def execReadEvents (payload : List Byte) (s : State) : Host.Outcome State Fault Refusal :=
  .next <| takeRequest 1 .always payload s <|
    let n := (byteAt payload 0).toNat
    if n = 0 ∨ 8 < n then respondBadField 1 s
    else respond .ok (eventsPayload (s.ev.queue.take n)) (removeEvents n s)

/-- READ_FLAGS (R169). -/
def execReadFlags (payload : List Byte) (s : State) : Host.Outcome State Fault Refusal :=
  .next <| takeRequest 0 .always payload s <|
    respond .ok (halfBytes (flagWord s.ev.flags)) (clearFlags s)

/-- SET_ENABLES (R166, R188). -/
def execSetEnables (payload : List Byte) (s : State) : Host.Outcome State Fault Refusal :=
  .next <| takeRequest 2 .always payload s <|
    if (halfAt payload 0).msb then respondBadField 1 s
    else respond .ok [] (writeEnables ((halfAt payload 0).setWidth 15) s)

/-- RESET_DEVICE (R186): the reset is armed, and applied when MCS# rises. -/
def execResetDevice (payload : List Byte) (s : State) : Host.Outcome State Fault Refusal :=
  .next <| takeRequest 0 .always payload s <|
    let t := respond .ok [] s
    { t with mgmt := { t.mgmt with resetArmed := true } }

/-- BAD_COMMAND (R176): a complete frame refused at test 1, 2 or 3. Bytes that no such test refuses are
not this command, and nothing is refused (notes/assumptions/2.md). -/
def execBadCommand (frame : List Byte) (s : State) : Host.Outcome State Fault Refusal :=
  .next <|
    match frameOf frame with
    | none => s
    | some f =>
      match frameRefusal f with
      | none => s
      | some status => s.onEvent (s.mgmt.phase == .request) (respond status [] s)

/-! ### The transaction (R173, R178, R179, R186) -/

/-- MCS# at its pin. -/
def setSelect (low : Bool) (s : State) : State := { s with pins := { s.pins with mcsLow := low } }

/-- A transaction opened: REQUEST, or DISCARDING behind a pending request and in reset (R173, R179). -/
def openTransaction (s : State) : State :=
  { s with
    mgmt := { s.mgmt with
      phase := if s.mgmt.pendingSet.isSome || s.heldInReset then .discarding else .request
      response := none } }

/-- The transaction ended in any phase (R178): an unsent response is lost, a held-back SET_CHANNEL stays
pending, and an armed reset is applied (R186). -/
def closeTransaction (s : State) : State :=
  if s.mgmt.resetArmed then resetPart s
  else { s with mgmt := { s.mgmt with phase := .closed, response := none } }

/-- TRANSACTION_OPEN (R173): MCS# falls. With CLK stopped only the pin changes (R195). -/
def execTransactionOpen (s : State) : Host.Outcome State Fault Refusal :=
  .next <|
    if s.pins.mcsLow then s
    else if s.pins.clkRunning then openTransaction (setSelect true s)
    else setSelect true s

/-- TRANSACTION_CLOSE (R178): MCS# rises. -/
def execTransactionClose (s : State) : Host.Outcome State Fault Refusal :=
  .next <|
    if !s.pins.mcsLow then s
    else if s.pins.clkRunning then closeTransaction (setSelect false s)
    else setSelect false s

/-- SYNC_BYTE_SENT (R177): the first whole byte after the response is ready carries A5h. -/
def execSyncByteSent (s : State) : Host.Outcome State Fault Refusal :=
  .next <| s.onEvent (s.mgmt.phase == .pending && s.mgmt.response.isSome)
    { s with mgmt := { s.mgmt with phase := .response } }

/-- RESPONSE_CRC_SENT (R177). -/
def execResponseCrcSent (s : State) : Host.Outcome State Fault Refusal :=
  .next <| s.onEvent (s.mgmt.phase == .response)
    { s with mgmt := { s.mgmt with phase := .spent } }

/-- The bytes MSO can carry, by the transaction phase (R173, R177): nothing is driven in CLOSED, the
response frame in RESPONSE, and the fill byte FFh in every other phase. -/
def State.mso (s : State) : List Byte :=
  match s.mgmt.phase with
  | .closed => []
  | .response =>
    match s.mgmt.response with
    | some r => responseFrame r
    | none => [0xFF#8]
  | .request | .pending | .spent | .discarding => [0xFF#8]

end Sys2Proof.Machine
end

