-- ==== Sys2Proof/Machine/Clock.lean ====
section
/-! DEFINITION. The clock: the tick of the millisecond timebase (R155, R156), the clock that stops (R195),
and the meanings of TIMESTAMP_TICK, CLK_STOPS and CLK_RUNS_AGAIN. -/

namespace Sys2Proof.Machine

/-! ### The millisecond timebase -/

/-- The expiries of channel `c` that are due. A min-hold expiry comes before a max-hold expiry (R51); the
others may be taken in any order. -/
def takeDueOf (c : Chan) (s : State) : State :=
  filterExpires c <| settleExpires c <| trainRecoveryEnds c <| pauseExpires c <| spaceExpires c <|
    markExpires c <| holdRecoveryEnds c <| maxHoldExpires c <| minHoldExpires c s

/-- Every millisecond expiry that is due taken, so that none is left to a later tick than its own
(R155). -/
def takeDue (s : State) : State := heartbeatExpires (allChans.foldl (fun t c => takeDueOf c t) s)

/-- The take of the head that waits at channel `c`. A HOLD channel that empties a full queue can meet there the
write held on it, which then waits in its turn (R29). -/
def takeAppendedOf (c : Chan) (s : State) : State :=
  trainHeadTakes c (holdHeadTakes c (holdHeadTakes c s))

/-- Every appended head taken that its channel's state takes, so that none waits beyond the instant of its
append (R30). -/
def takeAppended (s : State) : State := allChans.foldl (fun t c => takeAppendedOf c t) s

/-- The timebase ticks: the timestamp rises by one, modulo 2^32, and every running millisecond timer has
one tick less to come (R155, R156). -/
def advanceTime (s : State) : State :=
  mapChans Channel.tick
    { s with
      ctl := { s.ctl with timestamp := s.ctl.timestamp + 1, heartbeat := tickTimer s.ctl.heartbeat } }

/-- TIMESTAMP_TICK (R155, R156). An expiry of the tick before that no command has taken is taken first
(notes/assumptions/5.md), and then an appended head that none has taken (R30, notes/assumptions/22.md). -/
def execTimestampTick (s : State) : Host.Outcome State Fault Refusal :=
  .next (s.onEvent true (advanceTime (takeAppended (takeDue s))))

/-! ### CLK stops and runs again -/

/-- CLK running or not. -/
def setClock (running : Bool) (s : State) : State :=
  { s with pins := { s.pins with clkRunning := running } }

/-- MCS# taken at the level it shows: a level other than the one last taken is its fall or its rise. -/
def takeSelect (s : State) : State :=
  if s.pins.mcsLow && s.mgmt.phase == .closed then openTransaction s
  else if !s.pins.mcsLow && s.mgmt.phase != .closed then closeTransaction s
  else s

/-- SAFE# taken at the level it shows (R148). -/
def takeSafeLine (s : State) : State :=
  if s.pins.safeHigh then s else arbitrate (actOnSafeLow s)

/-- Every SENSEn taken at the level it shows (R130). -/
def takeSense (s : State) : State := allChans.foldl (fun t c => actOnSense c t) s

/-- MCS#, the host strobes and SAFE# taken in one of their six orders. -/
def takePins (order : Fin 6) (s : State) : State :=
  let select := takeSelect
  let host := takeStrobes arrives
  let safe := takeSafeLine
  match order with
  | 0 => safe (host (select s))
  | 1 => host (safe (select s))
  | 2 => safe (select (host s))
  | 3 => select (safe (host s))
  | 4 => host (select (safe s))
  | 5 => select (host (safe s))

/-- The inputs taken at the levels they show when CLK runs again (R195), in an order the spec leaves open
(notes/assumptions/6.md); that of SENSEn among them does not matter. A completion that a DWAIT# released
while CLK was stopped makes due comes after them, by its own row: R98, R118 and R153 allow it before them
too (DESIGN CHOICE, notes/assumptions/6.md). -/
def takeInputs (order : Fin 6) (s : State) : State :=
  if s.heldInReset then takeInputsInReset s else takeSense (takePins order s)

/-- CLK_STOPS (R195): every block freezes; nothing else changes. -/
def execClkStops (s : State) : Host.Outcome State Fault Refusal := .next (setClock false s)

/-- CLK_RUNS_AGAIN (R195): each block goes on from the state it held, and the inputs are taken at the
levels they show. -/
def execClkRunsAgain (s : State) : Host.Outcome State Fault Refusal :=
  .next (if s.pins.clkRunning then s else takeInputs (Config.inputOrder s.ctl.timestamp) (setClock true s))

end Sys2Proof.Machine
end

