-- ==== Sys2Proof/Machine/Dispatch.lean ====
section
/-! DEFINITION. The dispatch: one arm for each command, each a direct call of its meaning. -/

namespace Sys2Proof.Machine

def exec (i : Instr) (s : State) : Host.Outcome State Fault Refusal :=
  match i with
  | .getInfo payload => Sys2Proof.Machine.execGetInfo payload s
  | .getStatus payload => Sys2Proof.Machine.execGetStatus payload s
  | .setDevice payload => Sys2Proof.Machine.execSetDevice payload s
  | .setChannel payload => Sys2Proof.Machine.execSetChannel payload s
  | .clearChannel payload => Sys2Proof.Machine.execClearChannel payload s
  | .getChannel payload => Sys2Proof.Machine.execGetChannel payload s
  | .start payload => Sys2Proof.Machine.execStart payload s
  | .stop payload => Sys2Proof.Machine.execStop payload s
  | .enterSafe payload => Sys2Proof.Machine.execEnterSafe payload s
  | .resume payload => Sys2Proof.Machine.execResume payload s
  | .clearFault payload => Sys2Proof.Machine.execClearFault payload s
  | .purge payload => Sys2Proof.Machine.execPurge payload s
  | .queueWrite payload => Sys2Proof.Machine.execQueueWrite payload s
  | .readEvents payload => Sys2Proof.Machine.execReadEvents payload s
  | .readFlags payload => Sys2Proof.Machine.execReadFlags payload s
  | .setEnables payload => Sys2Proof.Machine.execSetEnables payload s
  | .resetDevice payload => Sys2Proof.Machine.execResetDevice payload s
  | .badCommand frame => Sys2Proof.Machine.execBadCommand frame s
  | .transactionOpen => Sys2Proof.Machine.execTransactionOpen s
  | .transactionClose => Sys2Proof.Machine.execTransactionClose s
  | .heldSetChannelAccept => Sys2Proof.Machine.execHeldSetChannelAccept s
  | .governedRead address => Sys2Proof.Machine.execGovernedRead address s
  | .governedWrite address data => Sys2Proof.Machine.execGovernedWrite address data s
  | .passThroughArrival address data => Sys2Proof.Machine.execPassThroughArrival address data s
  | .invalidCycle address => Sys2Proof.Machine.execInvalidCycle address s
  | .hostCycleInReset kind address data => Sys2Proof.Machine.execHostCycleInReset kind address data s
  | .hostCycleEnd => Sys2Proof.Machine.execHostCycleEnd s
  | .passThroughIssue => Sys2Proof.Machine.execPassThroughIssue s
  | .passThroughCompletion dd => Sys2Proof.Machine.execPassThroughCompletion dd s
  | .passTimeout => Sys2Proof.Machine.execPassTimeout s
  | .driveIssue => Sys2Proof.Machine.execDriveIssue s
  | .driveCompletion => Sys2Proof.Machine.execDriveCompletion s
  | .driveTimeout => Sys2Proof.Machine.execDriveTimeout s
  | .stallTimeout => Sys2Proof.Machine.execStallTimeout s
  | .stallReexamine => Sys2Proof.Machine.execStallReexamine s
  | .holdHeadTake c => Sys2Proof.Machine.execHoldHeadTake c s
  | .trainHeadTake c => Sys2Proof.Machine.execTrainHeadTake c s
  | .minHoldExpiry c => Sys2Proof.Machine.execMinHoldExpiry c s
  | .maxHoldExpiry c => Sys2Proof.Machine.execMaxHoldExpiry c s
  | .holdRecoveryEnd c => Sys2Proof.Machine.execHoldRecoveryEnd c s
  | .markExpiry c => Sys2Proof.Machine.execMarkExpiry c s
  | .spaceExpiry c => Sys2Proof.Machine.execSpaceExpiry c s
  | .pauseExpiry c => Sys2Proof.Machine.execPauseExpiry c s
  | .trainRecoveryEnd c => Sys2Proof.Machine.execTrainRecoveryEnd c s
  | .grant g => Sys2Proof.Machine.execGrant g s
  | .settleExpiry c => Sys2Proof.Machine.execSettleExpiry c s
  | .filterExpiry c => Sys2Proof.Machine.execFilterExpiry c s
  | .senseChange c high => Sys2Proof.Machine.execSenseChange c high s
  | .heartbeatExpiry => Sys2Proof.Machine.execHeartbeatExpiry s
  | .safeLineFall => Sys2Proof.Machine.execSafeLineFall s
  | .safeLineRise => Sys2Proof.Machine.execSafeLineRise s
  | .resetAssert => Sys2Proof.Machine.execResetAssert s
  | .resetRelease => Sys2Proof.Machine.execResetRelease s
  | .supplyFall => Sys2Proof.Machine.execSupplyFall s
  | .enteringRunComplete => Sys2Proof.Machine.execEnteringRunComplete s
  | .enteringSafeComplete => Sys2Proof.Machine.execEnteringSafeComplete s
  | .enteringConfigComplete => Sys2Proof.Machine.execEnteringConfigComplete s
  | .timestampTick => Sys2Proof.Machine.execTimestampTick s
  | .supplyWithinRange => Sys2Proof.Machine.execSupplyWithinRange s
  | .clkStops => Sys2Proof.Machine.execClkStops s
  | .clkRunsAgain => Sys2Proof.Machine.execClkRunsAgain s
  | .syncByteSent => Sys2Proof.Machine.execSyncByteSent s
  | .responseCrcSent => Sys2Proof.Machine.execResponseCrcSent s

end Sys2Proof.Machine
end

