-- ==== Sys2Proof/Safety.lean ====
section
/-! DEFINITION. What counts as a sound state of the part: the laws of the part that the spec states, each
as a predicate of a state, and their conjunction `Sound`. Each is written so that it can be decided. -/

namespace Sys2Proof.Machine

/-! ### Channels -/

/-- The states of a cadence, which occur in RUN alone (R16). -/
def ChanState.isCadence : ChanState → Bool
  | .resting | .waiting | .holding | .held | .mark | .space | .pausing | .recovering => true
  | .unconfigured | .safed | .fault => false

/-- The states in which a grouped channel holds its group's token (R16, R79). -/
def ChanState.holdsToken : ChanState → Bool
  | .holding | .held | .mark | .space | .recovering => true
  | .unconfigured | .safed | .resting | .waiting | .pausing | .fault => false

/-- The states that occur for a kind (R16, R37, R57). -/
def ChanState.ofKind : KindPart → ChanState → Bool
  | .hold _, .safed | .hold _, .resting | .hold _, .waiting | .hold _, .holding | .hold _, .held
  | .hold _, .recovering | .hold _, .fault => true
  | .train _, .safed | .train _, .resting | .train _, .waiting | .train _, .mark | .train _, .space
  | .train _, .pausing | .train _, .recovering | .train _, .fault => true
  | _, _ => false

/-- The HOLD part of a kind, if it is HOLD. -/
def KindPart.holdPart : KindPart → Option HoldPart
  | .hold p => some p
  | .train _ => none

/-- The TRAIN part of a kind, if it is TRAIN. -/
def KindPart.trainPart : KindPart → Option TrainPart
  | .train p => some p
  | .hold _ => none

/-- The drive write in flight, if the bus carries one. -/
def Downstream.inFlight (b : Downstream) : Option InFlight :=
  match b.bus with
  | .drive f => some f
  | .idle => none
  | .pass => none

/-- The ranges and relations every stored descriptor meets (R2 to R7). -/
abbrev DescriptorLegal (d : Descriptor) : Prop :=
  (∀ p, d.kind.holdPart = some p → p.maxHold = 0 ∨ p.minHold.toNat ≤ p.maxHold.toNat) ∧
  (∀ p, d.kind.trainPart = some p →
    p.markValue ≠ d.rest ∧ inRange 1 1000 p.markTime = true ∧ inRange 1 1000 p.spaceTime = true ∧
      inRange 10 1000 p.pauseUnit = true ∧ p.spaceTime.toNat ≤ d.gap.toNat) ∧
  (∀ f, d.feedback = some f → f.settleTime ≠ 0)

/-- The target value by state (R15). -/
abbrev TargetLaw (d : Descriptor) (x : Channel) : Prop :=
  (x.state = .safed ∨ x.state = .fault → x.target = some d.safe) ∧
  (x.state = .resting ∨ x.state = .waiting ∨ x.state = .recovering ∨ x.state = .space ∨
    x.state = .pausing → x.target = some d.rest) ∧
  (x.state = .holding ∨ x.state = .held → x.target ≠ none ∧ x.target ≠ some d.rest) ∧
  (x.state = .mark → x.target = d.kind.trainPart.map (·.markValue))

/-- The fields whose presence and range the state decides (R14, R37, R57). -/
abbrev FieldLaw (d : Descriptor) (x : Channel) : Prop :=
  (x.requested.isSome ↔ x.state = .waiting) ∧
  (d.kind.holdPart.isSome → x.requested ≠ some d.rest) ∧
  (d.kind.trainPart.isSome →
    ∀ q, x.requested = some q → 1 ≤ q.toNat ∧ q.toNat ≤ 63) ∧
  (x.marks ≠ 0 ↔ x.state = .mark ∨ x.state = .space) ∧ x.marks ≤ 63 ∧
  (x.trainCount ≠ 0 ↔ x.state = .mark ∨ x.state = .space) ∧ x.trainCount ≤ 63 ∧
  (x.abortPending = true → x.state = .mark) ∧
  (x.stuckReported = true → x.state = .fault)

/-- Each timer runs only in its state (R37, R57), and in HOLDING the max-hold timer never expires before
the min-hold timer (R51). -/
abbrev TimerLaw (x : Channel) : Prop :=
  (x.minHold.isSome → x.state = .holding) ∧
  (x.maxHold.isSome → x.state = .holding ∨ x.state = .held) ∧
  (x.markTimer.isSome → x.state = .mark) ∧
  (x.spaceTimer.isSome → x.state = .space) ∧
  (x.pauseTimer.isSome ↔ x.state = .pausing) ∧
  (x.recovery.isSome → x.state = .recovering) ∧
  (x.state = .holding → ∀ m, x.maxHold = some m → x.minHold.any (· ≤ m) = true)

/-- The comparison record (R126, R127): present exactly for a supervised channel, its expected level
that of the driven value, its timers running exactly in their phases. -/
abbrev ComparisonLaw (d : Descriptor) (x : Channel) : Prop :=
  (x.cmp.isSome ↔ d.feedback.isSome) ∧
  ∀ f, d.feedback = some f → ∀ k, x.cmp = some k →
    (k.phase = .unknown ↔ k.expected = none) ∧ (k.settle.isSome ↔ k.phase = .settling) ∧
    (k.filter.isSome ↔ k.phase = .filtering) ∧
    (k.expected ≠ none → k.expected = x.driven.map (expectedLevel f))

/-- An entry that a channel of a kind can queue (R19, R24). -/
def entryLegal (k : KindPart) (e : Entry) : Bool :=
  match k, e.kind with
  | .hold _, .set => true
  | .train _, .train => 1 ≤ e.operand.toNat && e.operand.toNat ≤ 63
  | .train _, .pause => 1 ≤ e.operand.toNat && e.operand.toNat ≤ 15
  | _, _ => false

/-- No two adjacent entries carry the same value. -/
def noEqualNeighbours : List Entry → Bool
  | e :: f :: rest => e.operand != f.operand && noEqualNeighbours (f :: rest)
  | [_] => true
  | [] => true

/-- The law of the channel queues (R20): 0 to 8 legal entries, and in a HOLD queue no two adjacent ones
with the same value; empty in FAULT. -/
abbrev QueueLaw (d : Descriptor) (x : Channel) : Prop :=
  x.queue.length ≤ Config.queueDepth ∧ x.queue.all (entryLegal d.kind) = true ∧
  (d.kind.holdPart.isSome → noEqualNeighbours x.queue = true) ∧ (x.state = .fault → x.queue = [])

/-- An unconfigured slot is as reset leaves it, but for its last fault (R1, R13, R17). -/
abbrev UnconfiguredLaw (s : State) : Prop :=
  ∀ c : Chan, (s.chan c).desc = none →
    s.chan c = { Channel.empty with lastFault := (s.chan c).lastFault }

/-- A predicate of the descriptor and the record of every configured channel. -/
abbrev EachConfigured (law : Descriptor → Channel → Prop) (s : State) : Prop :=
  ∀ c : Chan, ∀ d, (s.chan c).desc = some d → law d (s.chan c)

/-- The states that occur for the channel's kind; WAITING for grouped channels only (R16). -/
abbrev KindLaw (d : Descriptor) (x : Channel) : Prop :=
  ChanState.ofKind d.kind x.state = true ∧ (x.state = .waiting → d.group.isSome)

/-- Every stored descriptor is legal, and every record follows it (R2 to R7, R14 to R16, R20, R126). -/
abbrev TableLaw (s : State) : Prop :=
  UnconfiguredLaw s ∧ EachConfigured (fun d _ => DescriptorLegal d) s ∧ EachConfigured KindLaw s ∧
  EachConfigured TargetLaw s ∧ EachConfigured FieldLaw s ∧ EachConfigured (fun _ x => TimerLaw x) s ∧
  EachConfigured ComparisonLaw s ∧ EachConfigured QueueLaw s

/-- The states found in a mode (R16, R140). -/
abbrev ModeStateLaw (s : State) : Prop :=
  ∀ c : Chan,
    ((s.chan c).state.isCadence = true → s.ctl.mode = .run) ∧
    ((s.chan c).state = .safed → s.ctl.mode ≠ .run) ∧
    ((s.chan c).state = .fault → s.ctl.mode ≠ .config)

/-- Target addresses are pairwise distinct, and none is the heartbeat address (R8). -/
abbrev AddressLaw (s : State) : Prop :=
  (∀ c k : Chan, c ≠ k → (s.chan c).desc.isSome → (s.chan c).desc.map (·.target) ≠ (s.chan k).desc.map (·.target)) ∧
  ∀ c : Chan, (s.chan c).desc.map (·.target) ≠ some s.ctl.heartbeatAddress

/-! ### Groups (R78, R79) -/

/-- In each group the waiters are distinct members in WAITING and wait only while the token is held; a
grouped channel holds the token exactly in the holding states, and is in WAITING exactly while it is in
its group's list. -/
abbrev GroupLaw (s : State) : Prop :=
  (∀ g : Group,
    (s.group g).waiters.Nodup ∧
    (∀ w ∈ (s.group g).waiters, s.groupOf w = some g ∧ (s.chan w).state = .waiting) ∧
    (∀ h, (s.group g).holder = some h → s.groupOf h = some g ∧ (s.chan h).state.holdsToken = true) ∧
    ((s.group g).holder = none → (s.group g).waiters = [])) ∧
  ∀ c : Chan, ∀ g : Group, s.groupOf c = some g →
    ((s.chan c).state.holdsToken = true → (s.group g).holder = some c) ∧
    ((s.chan c).state = .waiting → c ∈ (s.group g).waiters)

/-- Outside RUN every queue and waiter list is empty, no token is held, and no host write is stalled
(R141). -/
abbrev OutsideRunLaw (s : State) : Prop :=
  s.ctl.mode ≠ .run →
    (∀ c : Chan, (s.chan c).queue = []) ∧ (∀ g : Group, s.group g = GroupState.free) ∧
    s.port.state ≠ .stalled

/-! ### The drive engine (R94, R96, R103, R142) -/

/-- The bus is IDLE exactly when no cycle is on it, every slot is empty and no pass-through cycle waits;
the burst count is 0 there and at a pass-through cycle, and 1 to 4 at a drive write (R96, R97). -/
abbrev BusLaw (s : State) : Prop :=
  (∀ c : Chan, (s.chan c).desc = none → (s.chan c).slot = none) ∧
  (s.port.state = .passOn ↔ s.down.bus = .pass) ∧
  (s.down.timer.isSome ↔ s.down.bus ≠ .idle) ∧
  (s.down.bus = .idle →
    s.down.burst = 0 ∧ s.port.state ≠ .passWait ∧ ∀ c : Chan, (s.chan c).slot = none) ∧
  (s.down.bus = .pass → s.down.burst = 0) ∧
  ∀ f, s.down.inFlight = some f →
    1 ≤ s.down.burst ∧ s.down.burst ≤ Config.burstLimit ∧
    (f.attached = true → (s.chan f.channel).desc.map (·.target) = some f.address)

/-- Every transition mark is no in CONFIG, RUN and SAFE; in a transition mode some mark is yes, and each
mark that is yes waits for a drive that is pending or in flight (R103, R142). -/
abbrev MarkLaw (s : State) : Prop :=
  (s.noMarks = false ↔ s.ctl.mode.isTransition = true) ∧
  ∀ c : Chan, (s.chan c).transitionMark = true →
    (s.chan c).slot.isSome ∨ s.down.inFlight.map (·.channel) = some c

/-! ### The host bus port (R109, R111, R119) -/

/-- The record, the stall timer and the held write are present exactly in their states, and a write is
held only in RUN, on a full queue of a configured channel that is not in FAULT. -/
abbrev PortLaw (s : State) : Prop :=
  (s.port.cycle = none ↔ s.port.state = .idle) ∧
  (s.port.stallTimer.isSome ↔ s.port.state = .stalled) ∧
  (s.port.held.isSome ↔ s.port.state = .stalled) ∧
  (∀ h, s.port.held = some h →
    s.ctl.mode = .run ∧ (s.chan h.channel).desc.any (·.policy == .stall) = true ∧
    (s.chan h.channel).state ≠ .fault ∧ (s.chan h.channel).queue.length = Config.queueDepth) ∧
  (∀ k, s.port.cycle = some k → (k.ending.isSome ↔ s.port.state = .ending)) ∧
  (s.port.state = .idle → s.port.released = false)

/-- A pass-through cycle in progress is to no governed address, so nothing but drive writes reaches a
governed address (R111). -/
abbrev PassLaw (s : State) : Prop :=
  s.port.state = .passWait ∨ s.port.state = .passOn →
    ∀ k, s.port.cycle = some k → s.governed k.address = none

/-! ### Mode controller, event unit, management port -/

/-- The heartbeat timer runs only in RUN (R151). -/
abbrev HeartbeatLaw (s : State) : Prop := s.ctl.heartbeat.isSome → s.ctl.mode = .run

/-- The settings lie in their ranges (R154). -/
abbrev SettingsLaw (s : State) : Prop :=
  (s.ctl.heartbeatTimeout = 0 ∨
    Config.heartbeatMin ≤ s.ctl.heartbeatTimeout.toNat ∧
      s.ctl.heartbeatTimeout.toNat ≤ Config.heartbeatMax) ∧
  1 ≤ s.ctl.stallLimit.toNat ∧ s.ctl.stallLimit.toNat ≤ Config.stallLimitMax

/-- While the part takes events it is in RUN or on its way there only with SAFE# high (R143, R145,
R148). -/
abbrev SafeLineLaw (s : State) : Prop :=
  s.live = true → s.ctl.mode = .run ∨ s.ctl.mode = .enteringRun → s.pins.safeHigh = true

/-- MINT# is asserted exactly while a set flag has its enable set (R167). -/
abbrev MintLaw (s : State) : Prop := s.ev.mint = mintLevel s.ev.flags s.ev.enables

/-- The event queue holds at most 32 records (R164). -/
abbrev EventLaw (s : State) : Prop := s.ev.queue.length ≤ Config.eventCapacity

/-- A SET_CHANNEL is held back only in CONFIG, behind a pass-through cycle to its new address, with its
checks still holding and no other request taken (R11, R179). -/
abbrev HoldBackLaw (s : State) : Prop :=
  ∀ q, s.mgmt.pendingSet = some q →
    s.ctl.mode = .config ∧ DescriptorLegal q.descriptor ∧
    targetConflicts q.channel q.descriptor.target s = false ∧
    passInProgressTo q.descriptor.target s = true ∧ s.mgmt.response = none ∧
    (s.mgmt.phase = .pending ∨ s.mgmt.phase = .closed ∨ s.mgmt.phase = .discarding)

/-- While a reset holds the part every block stands in its reset state, whether or not CLK runs (R157,
R180). -/
abbrev ResetHoldLaw (s : State) : Prop :=
  s.heldInReset = true →
    s.channels = State.reset.channels ∧ s.groups = State.reset.groups ∧ s.down = State.reset.down ∧
    s.ctl = State.reset.ctl ∧ s.ev = State.reset.ev ∧ s.mgmt.pendingSet = none ∧
    s.mgmt.resetArmed = false ∧ s.mgmt.response = none ∧
    (s.mgmt.phase = .closed ∨ s.mgmt.phase = .discarding) ∧
    (s.port.state = .idle ∨ s.port.state = .ending)

/-- While CLK runs MCS# and the host strobes have been taken at the levels they show (R173, R195). -/
abbrev InputLaw (s : State) : Prop :=
  s.pins.clkRunning = true →
    (s.pins.mcsLow = true ↔ s.mgmt.phase ≠ .closed) ∧ s.pins.strobes = none

/-- The management port listens: the part takes events, and an open transaction carries its request
(R173). -/
abbrev Listening (s : State) : Prop := s.live = true ∧ s.mgmt.phase = .request

/-- The part takes events and the port holds no host cycle, so a cycle can arrive (R108). -/
abbrev CycleCanArrive (s : State) : Prop := s.live = true ∧ s.port.state = .idle

/-- The port as it holds a cycle answered in the event of its arrival (R109). -/
abbrev answeredPort (kind : CycleKind) (a : Addr) (data : Option Byte) (decode : Option HostDecode)
    (ending : EndKind) (answer : Option Byte) : HostPort :=
  { state := .ending
    cycle := some { kind, address := a, data, decode, ending := some ending, answer }
    stallTimer := none, held := none, released := false }

/-- The bus free, with the burst count kept (R101, R104). -/
abbrev freedBus (b : Downstream) : Downstream := { bus := .idle, burst := b.burst, timer := none }

/-- The comparison record of a channel after a credited completion of `v` (R126, R128). -/
abbrev comparedAt (d : Descriptor) (v : Byte) (x : Channel) : Option Comparison :=
  match d.feedback with
  | some f => x.cmp.map (Comparison.completion f v)
  | none => x.cmp

/-- A configured channel that is not in FAULT exists, so a transition has a drive to wait for (R142). -/
abbrev HasHealthyChannel (s : State) : Prop :=
  ∃ c : Chan, (s.chan c).desc.isSome = true ∧ (s.chan c).state ≠ .fault

/-- A channel out of its cadence, in a state with a target value: timers stopped, nothing requested, no
marks, no abort pending (R55, R76). -/
abbrev outOfCadence (st : ChanState) (target : Byte) (x : Channel) : Channel :=
  { x with
    state := st, target := some target, requested := none, marks := 0, abortPending := false,
    trainCount := 0, minHold := none, maxHold := none, markTimer := none, spaceTimer := none,
    pauseTimer := none, recovery := none }

/-- The port when the cycle it holds ends, or IDLE when the host has already gone (R109, R124). -/
abbrev endedPort (p : HostPort) (ending : EndKind) (answer : Option Byte) : HostPort :=
  if p.released then HostPort.idle
  else
    { state := .ending
      cycle := p.cycle.map fun k => { k with ending := some ending, answer }
      stallTimer := none, held := none, released := false }

/-- `u` is the state `s` in which the mode has left RUN for `next`, by the table of R146, before the
arbiter's choice; `cause` is the last safe cause it leaves. -/
abbrev LeftRun (next : Mode) (cause : Option SafeCause) (s u : State) : Prop :=
  u.ctl = { s.ctl with mode := next, lastSafeCause := cause, heartbeat := none } ∧
  (∀ g : Group, u.group g = { holder := none, waiters := [] }) ∧
  u.down = s.down ∧ u.mgmt = s.mgmt ∧ u.pins = s.pins ∧ u.pending = s.pending ∧
  (∀ c : Chan, ∀ d, (s.chan c).desc = some d → (s.chan c).state ≠ .fault →
    u.chan c =
      { outOfCadence .safed d.safe (s.chan c) with
        queue := [], slot := some d.safe, transitionMark := true }) ∧
  (∀ c : Chan, (s.chan c).desc = none ∨ (s.chan c).state = .fault →
    u.chan c = { s.chan c with queue := [] }) ∧
  (s.port.state ≠ .stalled ∨ s.port.held = none → u.port = s.port ∧ u.ev = s.ev) ∧
  ∀ h, s.port.state = .stalled → s.port.held = some h →
    u.port = endedPort s.port .normal none ∧
      u.ev = (recordChannel .blockedWrite h.channel h.data s).ev

/-- `t` is the state `s` that has reached CONFIG by R150: every configured channel in FAULT becomes SAFED
with its last fault and comparison kept, and MODE_CHANGED is recorded. -/
abbrev ReachedConfig (s t : State) : Prop :=
  ∃ u : State, t = record .modeChanged none (some 0) none none u ∧
    u = { s with channels := u.channels, ctl := { s.ctl with mode := .config } } ∧
    ∀ c : Chan,
      (∀ d, (s.chan c).desc = some d → (s.chan c).state = .fault →
        u.chan c = { outOfCadence .safed d.safe (s.chan c) with stuckReported := false }) ∧
      ((s.chan c).desc = none ∨ (s.chan c).state ≠ .fault → u.chan c = s.chan c)

/-- The state `s` in which channel `c`, with descriptor `d`, has entered FAULT with a cause, before its
group, a stall and the bus take the fault: its safe drive is requested, in ENTERING_RUN and ENTERING_SAFE
with its transition mark, its queue empty, its cadence left (R103, R105, R132, R133). -/
abbrev faulted (c : Chan) (d : Descriptor) (cause : FaultCause) (s : State) : State :=
  s.setChan c
    { outOfCadence .fault d.safe (s.chan c) with
      queue := [], lastFault := some { cause := cause, timestamp := s.ctl.timestamp },
      stuckReported := false, slot := some d.safe
      transitionMark :=
        if s.ctl.mode = .enteringRun ∨ s.ctl.mode = .enteringSafe then true
        else (s.chan c).transitionMark }

/-- The token of `g` given up by `c`, if `c` holds it: to the head waiter, which is granted it, or free
(R82, R86); `passToken` is stated whole in GrantServesTheHeadWaiter. -/
abbrev tokenGivenUp (c : Chan) (d : Descriptor) (s : State) : State :=
  match d.group with
  | none => s
  | some g => if (s.group g).holder = some c then passToken g s else s

/-- The waiter list of its group without `c`, the others in their order (R85, R87). -/
abbrev waiterRemoved (c : Chan) (d : Descriptor) (s : State) : State :=
  match d.group with
  | none => s
  | some g => s.setGroup g { s.group g with waiters := (s.group g).waiters.filter (· != c) }

/-- A write held on the queue of `c` given up with BLOCKED_WRITE and a normal end (R122). -/
abbrev stallGivenUp (c : Chan) (s : State) : State :=
  match s.port.held with
  | none => s
  | some h =>
    if s.port.state = .stalled ∧ h.channel = c then
      { recordChannel .blockedWrite c h.data s with port := endedPort s.port .normal none }
    else s

/-- The transition mark of `c` tested at the end of a drive write: it becomes no when the slot is empty
(R103). -/
abbrev markTested (c : Chan) (s : State) : State :=
  if (s.chan c).slot = none then s.setChan c { s.chan c with transitionMark := false } else s

/-- `t` is `s` after the report of R142: in a transition mode with no mark at yes the transition has
completed, else nothing has happened. -/
abbrev Reported (s t : State) : Prop :=
  (s.ctl.mode.isTransition = false ∨ (∃ k : Chan, (s.chan k).transitionMark = true) → t = s) ∧
  ((∀ k : Chan, (s.chan k).transitionMark = false) →
    (s.ctl.mode = .enteringRun → exec .enteringRunComplete s = .next t ∧ t.ctl.mode = .run) ∧
    (s.ctl.mode = .enteringSafe → exec .enteringSafeComplete s = .next t ∧ t.ctl.mode = .safe) ∧
    (s.ctl.mode = .enteringConfig →
      exec .enteringConfigComplete s = .next t ∧ t.ctl.mode = .config))

/-- The record of a channel at the acceptance of a SET_CHANNEL of `d`, its safe drive requested (R10,
R95, R126). -/
abbrev acceptedChannel (d : Descriptor) (x : Channel) : Channel :=
  { desc := some d, state := .safed, target := some d.safe, driven := none, requested := none,
    marks := 0, abortPending := false, queue := [], lastFault := x.lastFault,
    stuckReported := false, trainCount := 0, minHold := none, maxHold := none,
    markTimer := none, spaceTimer := none, pauseTimer := none, recovery := none,
    cmp :=
      if d.feedback.isSome then
        some { phase := .unknown, expected := none, settle := none, filter := none }
      else none
    slot := some d.safe, transitionMark := x.transitionMark }

/-- The downstream bus with a drive write in flight for `c` detached (R95). -/
abbrev detachedBus (c : Chan) (b : Downstream) : Downstream :=
  match b.bus with
  | .drive f => if f.channel = c then { b with bus := .drive { f with attached := false } } else b
  | .idle => b
  | .pass => b

/-- The rows that are expiries of the millisecond timers (R155). -/
def isExpiry : Instr → Bool
  | .minHoldExpiry _ | .maxHoldExpiry _ | .holdRecoveryEnd _ | .markExpiry _ | .spaceExpiry _
  | .pauseExpiry _ | .trainRecoveryEnd _ | .settleExpiry _ | .filterExpiry _ | .heartbeatExpiry => true
  | _ => false

/-- The rows that take the head of a queue after an append (R30). -/
def isHeadTake : Instr → Bool
  | .holdHeadTake _ | .trainHeadTake _ => true
  | _ => false

/-- The commands of a list, taken one after another from `s`, lead to `t`. -/
def Leads : List Instr → State → State → Prop
  | [], s, t => t = s
  | i :: rest, s, t => ∃ u, exec i s = .next u ∧ Leads rest u t

/-- No millisecond timer has had all its ticks (R155). -/
abbrev NoneDue (s : State) : Prop :=
  s.ctl.heartbeat ≠ some 0 ∧
  ∀ c : Chan, (s.chan c).minHold ≠ some 0 ∧ (s.chan c).maxHold ≠ some 0 ∧
    (s.chan c).markTimer ≠ some 0 ∧ (s.chan c).spaceTimer ≠ some 0 ∧ (s.chan c).pauseTimer ≠ some 0 ∧
    (s.chan c).recovery ≠ some 0 ∧
    ∀ k, (s.chan c).cmp = some k → k.settle ≠ some 0 ∧ k.filter ≠ some 0

/-- No head waits in a state that takes heads: RESTING, WAITING and HELD of a HOLD channel (R38), RESTING of
a TRAIN channel (R59). -/
abbrev NoHeadWaits (s : State) : Prop :=
  ∀ c : Chan, ∀ d, (s.chan c).desc = some d →
    (d.kind.holdPart.isSome = true → (s.chan c).state = .resting ∨ (s.chan c).state = .waiting ∨
      (s.chan c).state = .held → (s.chan c).queue = []) ∧
    (d.kind.trainPart.isSome = true → (s.chan c).state = .resting → (s.chan c).queue = [])

/-- A timer of `d` units just started: `d + 1` ticks to come, or not started for length 0 (R155). -/
abbrev fullTimer (d : Nat) : Option Nat := if d = 0 then none else some (d + 1)

/-- The comparison record moved to UNKNOWN, if the channel is supervised (R136, R138). -/
abbrev forgotten (d : Descriptor) (x : Channel) : Option Comparison :=
  if d.feedback.isSome then
    x.cmp.map fun _ => { phase := .unknown, expected := none, settle := none, filter := none }
  else x.cmp

/-- A settled mode: one that is no transition (R142). -/
abbrev SettledMode (s : State) : Prop :=
  s.ctl.mode = .config ∨ s.ctl.mode = .run ∨ s.ctl.mode = .safe

/-- The laws of the part together. -/
abbrev Sound (s : State) : Prop :=
  TableLaw s ∧ ModeStateLaw s ∧ AddressLaw s ∧ GroupLaw s ∧ OutsideRunLaw s ∧ BusLaw s ∧ MarkLaw s ∧
  PortLaw s ∧ PassLaw s ∧ HeartbeatLaw s ∧ SettingsLaw s ∧ SafeLineLaw s ∧ MintLaw s ∧ EventLaw s ∧
  HoldBackLaw s ∧ ResetHoldLaw s ∧ InputLaw s

end Sys2Proof.Machine
end

