-- ==== Sys2Proof/WellFormed.lean ====
section
/-! DEFINITION. The well-formed commands: a management command's payload fits a frame that the port
reads further (R174), and a `badCommand` is one complete frame that a test of R176 refuses. Every other
operand is typed to its range. -/

namespace Sys2Proof

/-- The payload fits a request frame that is read further: at most 40 bytes (R174). -/
def payloadFits (payload : List Byte) : Bool := payload.length ≤ Config.maxPayload

/-- The bytes are exactly one complete frame, and tests 1 to 3 of R176 refuse it. -/
def isBadFrame (frame : List Byte) : Bool :=
  frameOf frame == some frame && (frameRefusal frame).isSome

/-- The well-formedness of a command. -/
def Instr.wellFormed (i : Instr) : Bool :=
  match i with
  | .badCommand frame => isBadFrame frame
  | _ =>
    match codeAndPayload i with
    | some (_, payload) => payloadFits payload
    | none => true

end Sys2Proof
end

