-- ==== Sys2Proof/Certificates/Slice0/Obligations.lean ====
section
/-! DEFINITION. The statements for the provers. Each says, for every state and every operand that meets
hypotheses on the state and the operands alone, what a command answers; a next state is written out, so
that what it does not name is unchanged. An operation of the model that stands in a next state is said whole
by one statement: `record`, `recordChannel` and `kindCode` by RecordIsStampedAndStored, `arbitrate` by
ArbiterIssuesByTheTable, `respond` by ResponseFrameIsSent, `requestTransitionDrives` by StartAndResumeBeginRun,
`abortTrain` by AbortActsByTheState, `reexamine` by StallEndsByItsLimitOrAFreeSlot, `passToken` by
GrantServesTheHeadWaiter, `descriptorBytes` and `descriptorFailure` by DescriptorBytesAndDescriptorsAgree. What
else they name is an abbreviation of Safety.lean. -/

open Sys2Proof Sys2Proof.Machine

/-! ### The whole machine -/

/-- The command at the front of the queue is taken with the queue's rest. The second clause, an empty
queue idles, is the model's choice (notes/assumptions/4.md). -/
def Obligations.StepTakesFrontCommand : Prop :=
  (∀ (s : State) (c : Instr) (rest : List Instr), s.pending = c :: rest →
    step s = exec c { s with pending := rest }) ∧
  ∀ s : State, s.pending = [] → step s = .next s

/-- Every command, in every state, answers a next state, and leaves the queue of waiting commands as it
is: the spec gives the part no condition in which it stops. -/
def Obligations.EveryCommandAnswersNext : Prop :=
  ∀ (i : Instr) (s : State), ∃ t, exec i s = .next t ∧ t.pending = s.pending

/-- The reset state of every block, as the table after R158 gathers it, and that the laws of the part hold in
it. What no reset table lists is the model's choice: every timer stopped, the train count 0 and no comparison
in `Channel.empty`, no response, MINT# released (notes/assumptions/15.md), and the input levels of State.reset
(notes/assumptions/1.md). -/
def Obligations.ResetStateIsSound : Prop :=
  ((∀ c : Chan, State.reset.chan c = Channel.empty) ∧
   (∀ g : Group, State.reset.group g = { holder := none, waiters := [] }) ∧
   State.reset.down = { bus := .idle, burst := 0, timer := none } ∧
   State.reset.port.state = .idle ∧ State.reset.port.cycle = none ∧
   State.reset.port.stallTimer = none ∧ State.reset.port.held = none ∧
   State.reset.ctl =
     { mode := .config, lastSafeCause := none, heartbeatAddress := 0, heartbeatTimeout := 0,
       stallLimit := 50, heartbeat := none, timestamp := 0 } ∧
   State.reset.ev = { queue := [], sequence := 0, flags := 0, enables := 0, mint := false } ∧
   State.reset.mgmt = { phase := .closed, pendingSet := none, resetArmed := false, response := none } ∧
   State.reset.hwait = false ∧ State.reset.herr = false ∧ State.reset.hd = none ∧
   State.reset.downCycle = none ∧ State.reset.mso = []) ∧
  Sound State.reset

/-- Every step keeps the laws of the part, from every state that has them. -/
def Obligations.EveryStepKeepsSound : Prop :=
  ∀ s t : State, Sound s → step s = .next t → Sound t

/-- Every step keeps the law of MINT# (R167), with no other law assumed. -/
def Obligations.MintFollowsFlagsAndEnables : Prop :=
  ∀ s t : State, (s.ev.mint = true ↔ ∃ n : Fin 15, s.ev.flags.getLsbD n = true ∧
      s.ev.enables.getLsbD n = true) →
    step s = .next t →
    (t.ev.mint = true ↔ ∃ n : Fin 15, t.ev.flags.getLsbD n = true ∧ t.ev.enables.getLsbD n = true)

/-- Every step keeps the law of the event queue (R164): a reset empties it; else records leave at the
head, and the records created join at the tail with the sequence numbers that follow the counter, the
last of them dropped only at a full queue. -/
def Obligations.EventQueueKeepsItsLaw : Prop :=
  ∀ s t : State, s.ev.queue.length ≤ 32 → step s = .next t →
    t.ev = EventUnit.reset ∨
    ∃ (gone : Nat) (created : List EventRecord) (dropped : Nat),
      t.ev.queue = s.ev.queue.drop gone ++ created ∧ t.ev.queue.length ≤ 32 ∧
      created.map (·.sequence) =
        (List.range created.length).map (fun i => s.ev.sequence + BitVec.ofNat 16 i) ∧
      t.ev.sequence = s.ev.sequence + BitVec.ofNat 16 (created.length + dropped) ∧
      (dropped ≠ 0 → t.ev.queue.length = 32 ∧ t.ev.flags.getLsbD 0 = true)

/-- Every step keeps the law that the heartbeat timer runs only in RUN (R151), and keeps the device settings in
their ranges (R154), each with no other law assumed. -/
def Obligations.HeartbeatAndSettingsKeepTheirLaws : Prop :=
  (∀ s t : State, (s.ctl.heartbeat.isSome → s.ctl.mode = .run) → step s = .next t →
     (t.ctl.heartbeat.isSome → t.ctl.mode = .run)) ∧
  ∀ s t : State, SettingsLaw s → step s = .next t → SettingsLaw t

/-- At most one channel of a group is in a token-holding state, and it is the group's holder (R79, R90). -/
def Obligations.GroupMembersExcludeEachOther : Prop :=
  ∀ s : State, Sound s → ∀ (g : Group) (c k : Chan), s.groupOf c = some g → s.groupOf k = some g →
    (s.chan c).state.holdsToken = true → s.tokenHeld c = true ∧
      (c ≠ k → (s.chan k).state.holdsToken = false ∧ s.tokenHeld k = false)

/-- A write on the downstream bus to a governed address is a drive write, and a host cycle that is on the
downstream bus or waits for it is to no governed address (R111). -/
def Obligations.GovernedAddressSeesDriveWritesOnly : Prop :=
  ∀ s : State, Sound s →
    (∀ a v, s.downCycle = some (a, some v) → (s.governed a).isSome = true →
      ∃ f, s.down.bus = .drive f ∧ f.address = a ∧ f.value = v) ∧
    ∀ k, s.port.cycle = some k → s.port.state = .passWait ∨ s.port.state = .passOn →
      s.governed k.address = none

/-- No command but START and RESUME, with SAFE# high, takes the part toward RUN from a mode that is not
RUN or ENTERING_RUN (R143, R145, R148). -/
def Obligations.OnlyStartAndResumeEnterRun : Prop :=
  ∀ (i : Instr) (s t : State), exec i s = .next t →
    s.ctl.mode ≠ .run → s.ctl.mode ≠ .enteringRun → t.ctl.mode = .run ∨ t.ctl.mode = .enteringRun →
    s.pins.safeHigh = true ∧
      ((i = .start [] ∧ s.ctl.mode = .config) ∨ (i = .resume [] ∧ s.ctl.mode = .safe))

/-- A channel leaves FAULT only by CLEAR_FAULT, or in an event that reaches CONFIG: the end of a STOP or
a reset (R16). -/
def Obligations.FaultIsLeftOnlyByItsExits : Prop :=
  ∀ (i : Instr) (s t : State) (c : Chan), Sound s → exec i s = .next t →
    (s.chan c).state = .fault → (t.chan c).state ≠ .fault →
    t.ctl.mode = .config ∨
      ((s.ctl.mode = .run ∨ s.ctl.mode = .safe) ∧ ∃ p, i = .clearFault p ∧ chanOf (byteAt p 0) = some c)

/-- A hold whose min-hold timer still has ticks to come keeps its value, and no drive is requested for
it or put on the bus, unless the channel faults or the mode leaves RUN (R47). -/
def Obligations.MinHoldIsKept : Prop :=
  ∀ (i : Instr) (s t : State) (c : Chan) (k : Nat), Sound s → exec i s = .next t →
    (s.chan c).state = .holding → (s.chan c).minHold = some (k + 1) → (s.chan c).slot = none →
    ((t.chan c).state = .holding ∧ (t.chan c).target = (s.chan c).target ∧
      (t.chan c).slot = none ∧ (t.chan c).minHold.isSome = true ∧
      ∀ f, t.down.inFlight = some f → f.channel = c → s.down.inFlight = some f) ∨
    (t.chan c).state = .fault ∨ t.ctl.mode ≠ .run

/-- Within a train the marks remaining never rise, and lowered to 0 they leave neither MARK nor SPACE. MARK
becomes SPACE only by the mark expiry and SPACE becomes MARK only by the space expiry, each of its own
channel (R65 to R67); a tick takes an expiry that is due by then (notes/assumptions/5.md). -/
def Obligations.MarksOfATrainNeverRise : Prop :=
  ∀ (i : Instr) (s t : State) (c : Chan), Sound s → exec i s = .next t →
    (s.chan c).state = .mark ∨ (s.chan c).state = .space →
    (t.chan c).marks ≤ (s.chan c).marks ∧
    ((t.chan c).marks = 0 → (t.chan c).state ≠ .mark ∧ (t.chan c).state ≠ .space) ∧
    ((t.chan c).state = .space → (s.chan c).state = .mark →
      (i = .markExpiry c ∨ (i = .timestampTick ∧ (s.chan c).markTimer = some 0)) ∧
        (t.chan c).marks + 1 = (s.chan c).marks) ∧
    ((t.chan c).state = .mark → (t.chan c).marks = (s.chan c).marks ∧
      (t.chan c).trainCount = (s.chan c).trainCount ∧
      ((s.chan c).state = .space →
        i = .spaceExpiry c ∨ (i = .timestampTick ∧ (s.chan c).spaceTimer = some 0)))

/-! ### Request frames -/

/-- Decoding the request frame of a well-formed command gives the command back, whatever bytes follow the
frame; and the bytes of a complete frame spell one well-formed command, whose request frame they are
(R174, R176, R189). -/
def Obligations.RequestFramesAndCommandsAgree : Prop :=
  (∀ (i : Instr) (frame after : List Byte), i.wellFormed = true → encodeRequest i = some frame →
     decodeRequest (frame ++ after) = some i) ∧
  ∀ (bytes frame : List Byte) (i : Instr), frameOf bytes = some frame → decodeRequest bytes = some i →
    i.wellFormed = true ∧ encodeRequest i = some frame

/-- A legal descriptor, laid out in its 22 bytes, passes every check of R6 and R7 and is read back as it was;
and bytes that pass every check spell a legal descriptor (R2 to R7). The third clause is the layout (R189);
the fourth says which field index fails on which bytes, and that the lowest is the one reported (R6, R7). -/
def Obligations.DescriptorBytesAndDescriptorsAgree : Prop :=
  (∀ d : Descriptor, DescriptorLegal d →
     (descriptorBytes d).length = 22 ∧ descriptorFailure (descriptorBytes d) = none ∧
       descriptorOf (descriptorBytes d) = d) ∧
  (∀ r : List Byte, descriptorFailure r = none → DescriptorLegal (descriptorOf r)) ∧
  (∀ d : Descriptor,
     let r := descriptorBytes d
     addrAt r 0 = d.target ∧
     (byteAt r 3).toNat =
       (match d.kind with
         | .hold _ => 0
         | .train _ => 1) ∧
     byteAt r 4 = d.safe ∧ byteAt r 5 = d.rest ∧ halfAt r 6 = d.gap ∧
     (byteAt r 8).toNat =
       (match d.group with
         | none => 0
         | some g => g.val + 1) ∧
     (byteAt r 9).toNat =
       (match d.policy with
         | .stall => 0
         | .discard => 1) ∧
     (byteAt r 10).toNat =
       (match d.view with
         | .driven => 0
         | .commanded => 1) ∧
     (∀ p, d.kind = .hold p →
       halfAt r 11 = p.minHold ∧ halfAt r 13 = p.maxHold ∧
         byteAt r 15 = 0 ∧ byteAt r 16 = 0 ∧ byteAt r 17 = 0) ∧
     (∀ p, d.kind = .train p →
       byteAt r 11 = p.markValue ∧ halfAt r 12 = p.markTime ∧ halfAt r 14 = p.spaceTime ∧
         halfAt r 16 = p.pauseUnit) ∧
     (d.feedback = none →
       byteAt r 18 = 0 ∧ byteAt r 19 = 0 ∧ byteAt r 20 = 0 ∧ byteAt r 21 = 0) ∧
     ∀ f, d.feedback = some f →
       byteAt r 18 = 1 ∧ (byteAt r 19).toNat = f.senseBit.val ∧
         (byteAt r 20).toNat = (if f.invert then 1 else 0) ∧ byteAt r 21 = f.settleTime) ∧
  ∀ r : List Byte,
    let hold : Prop := byteAt r 3 = 0x00
    let train : Prop := byteAt r 3 = 0x01
    let present : Prop := byteAt r 18 = 0x01
    let above (n most : Nat) : Prop := most < (byteAt r n).toNat
    let outside (n lo hi : Nat) : Prop := (halfAt r n).toNat < lo ∨ hi < (halfAt r n).toNat
    let fails (n : Nat) : Prop :=
      (n = 2 ∧ ¬ hold ∧ ¬ train) ∨
      ((hold ∨ train) ∧
        ((n = 6 ∧ above 8 4) ∨ (n = 7 ∧ above 9 1) ∨ (n = 8 ∧ above 10 1) ∨ (n = 15 ∧ above 18 1) ∨
          (present ∧ ((n = 16 ∧ above 19 7) ∨ (n = 17 ∧ above 20 1) ∨ (n = 18 ∧ byteAt r 21 = 0))))) ∨
      (hold ∧ n = 10 ∧ halfAt r 13 ≠ 0 ∧ (halfAt r 13).toNat < (halfAt r 11).toNat) ∨
      (train ∧
        ((n = 5 ∧ (halfAt r 6 = 0 ∨
            (¬ outside 14 1 1000 ∧ (halfAt r 6).toNat < (halfAt r 14).toNat))) ∨
          (n = 11 ∧ byteAt r 11 = byteAt r 5) ∨ (n = 12 ∧ outside 12 1 1000) ∨
          (n = 13 ∧ outside 14 1 1000) ∨ (n = 14 ∧ outside 16 10 1000)))
    (descriptorFailure r = none ↔ ∀ n, ¬ fails n) ∧
    ∀ n, descriptorFailure r = some n ↔ fails n ∧ ∀ m, m < n → ¬ fails m

/-! ### Shared operations that other statements name -/

/-- Creating a record (R162), one with a channel and a value among them, and the codes of the kinds (R161). -/
def Obligations.RecordIsStampedAndStored : Prop :=
  (∀ (s : State) (kind : EventKind) (c : Option Chan) (v : Option Byte) (a : Option Addr)
     (cause : Option SafeCause),
     let r : EventRecord :=
       { sequence := s.ev.sequence, timestamp := s.ctl.timestamp, kind, channel := c, value := v,
         address := a, cause }
     ∃ e : EventUnit, record kind c v a cause s = { s with ev := e } ∧
       e.sequence = s.ev.sequence + 1 ∧ e.enables = s.ev.enables ∧
       (s.ev.queue.length < 32 → e.queue = s.ev.queue ++ [r]) ∧
       (32 ≤ s.ev.queue.length → e.queue = s.ev.queue) ∧
       (∀ n : Fin 15, e.flags.getLsbD n =
         (s.ev.flags.getLsbD n || n.val == kindCode kind ||
           (n.val == 0 && decide (32 ≤ s.ev.queue.length)))) ∧
       (e.mint = true ↔ ∃ n : Fin 15, e.flags.getLsbD n = true ∧ e.enables.getLsbD n = true)) ∧
  (∀ (kind : EventKind) (c : Chan) (v : Byte) (s : State),
     recordChannel kind c v s = record kind (some c) (some v) none none s) ∧
  ∀ kind : EventKind, kindCode kind =
    (match kind with
      | .blockedWrite => 1
      | .badData => 2
      | .queueFull => 3
      | .stallTimeout => 4
      | .holdExpired => 5
      | .trainDone => 6
      | .trainAborted => 7
      | .feedbackFault => 8
      | .feedbackStuck => 9
      | .driveTimeout => 10
      | .passTimeout => 11
      | .heartbeatLost => 12
      | .modeChanged => 13
      | .queuePurged => 14)

/-- What the arbiter issues (R97), and that it changes nothing at a bus that carries a cycle (R96);
DRIVE_ISSUE and PASS_THROUGH_ISSUE are its choice. -/
def Obligations.ArbiterIssuesByTheTable : Prop :=
  ∀ s : State,
    (s.down.bus ≠ .idle → arbitrate s = s) ∧
    (s.down.bus = .idle → (∀ c : Chan, (s.chan c).slot = none) → s.port.state ≠ .passWait →
      arbitrate s = { s with down := { s.down with burst := 0 } }) ∧
    (s.down.bus = .idle → s.port.state = .passWait →
      (∀ c : Chan, (s.chan c).slot = none) ∨ s.down.burst = 4 →
      arbitrate s =
        { s with
          down := { bus := .pass, burst := 0, timer := some 1000 }
          port := { s.port with state := .passOn } } ∧
        (s.live = true → exec .passThroughIssue s = .next (arbitrate s))) ∧
    ∀ (c : Chan) (d : Descriptor) (v : Byte), s.down.bus = .idle →
      (s.chan c).slot = some v → (s.chan c).desc = some d → (∀ k : Chan, k < c → (s.chan k).slot = none) →
      ¬ (s.port.state = .passWait ∧ s.down.burst = 4) →
      arbitrate s =
        { s.setChan c { s.chan c with slot := none } with
          down :=
            { bus := .drive { channel := c, address := d.target, value := v, attached := true }
              burst := min 4 (s.down.burst + 1), timer := some 1000 } } ∧
      (s.live = true → exec .driveIssue s = .next (arbitrate s))

/-! ### Management commands: reports -/

/-- GET_INFO answers its block in every mode, and changes no other state (R184). -/
def Obligations.GetInfoReturnsIdentityBlock : Prop :=
  ∀ s : State, Listening s →
    exec (.getInfo []) s = .next (respond .ok [0x55, 0x01, 0x10, 0x08, 0x04, 0x20] s)

/-- GET_STATUS answers the status block byte by byte (R190), and changes no other state. The heartbeat
remaining is 0 while DISARMED, else one less than the ticks to come, the whole milliseconds before the
earliest expiry (R151, R155; DEDUCED, notes/assumptions/7.md). -/
def Obligations.GetStatusReturnsStatusBlock : Prop :=
  (∀ s : State, Listening s → ∃ p : List Byte,
     exec (.getStatus []) s = .next (respond .ok p s) ∧ p.length = 15 ∧
     (byteAt p 0).toNat =
       (match s.ctl.mode with
         | .config => 0
         | .enteringRun => 1
         | .run => 2
         | .enteringSafe => 3
         | .safe => 4
         | .enteringConfig => 5) ∧
     (byteAt p 1).toNat =
       (match s.ctl.lastSafeCause with
         | none => 0
         | some .command => 1
         | some .heartbeat => 2
         | some .safeLine => 3) ∧
     byteAt p 2 = (if s.pins.safeHigh then 1 else 0) ∧
     byteAt p 3 = BitVec.ofNat 8 s.ev.queue.length ∧
     (∀ n : Fin 15, (halfAt p 4).getLsbD n = s.ev.flags.getLsbD n) ∧ (halfAt p 4).msb = false ∧
     (∀ n : Fin 15, (halfAt p 6).getLsbD n = s.ev.enables.getLsbD n) ∧ (halfAt p 6).msb = false ∧
     halfAt p 8 ++ halfAt p 10 = s.ctl.timestamp ∧
     byteAt p 12 = BitVec.ofNat 8 ((allChans.filter fun c => (s.chan c).desc.isSome).length) ∧
     halfAt p 13 = BitVec.ofNat 16 (heartbeatRemaining s)) ∧
  (∀ s : State, s.ctl.heartbeat = none → heartbeatRemaining s = 0) ∧
  (∀ (s : State) (k : Nat), s.ctl.heartbeat = some (k + 1) → heartbeatRemaining s = k) ∧
  ∀ s t : State, s.ctl.mode = .enteringRun → s.live = true → (∀ c : Chan, (s.chan c).transitionMark = false) →
    exec .enteringRunComplete s = .next t → heartbeatRemaining t = s.ctl.heartbeatTimeout.toNat

/-- GET_CHANNEL answers the channel block (R187, R191), and changes no other state. The token held and the
waiter position are those of the group's holder and list, the position counted from 1 (R78). -/
def Obligations.GetChannelReturnsChannelBlock : Prop :=
  (∀ (s : State) (c : Chan),
    (s.tokenHeld c = true ↔ ∃ d g, (s.chan c).desc = some d ∧ d.group = some g ∧
      (s.group g).holder = some c) ∧
    ∀ n : Nat, s.waiterPosition c = some n ↔
      ∃ d g ahead behind, (s.chan c).desc = some d ∧ d.group = some g ∧
        (s.group g).waiters = ahead ++ c :: behind ∧ c ∉ ahead ∧ n = ahead.length + 1) ∧
  ∀ (s : State) (c : Chan), Listening s → ∃ r : List Byte,
    (((s.chan c).desc = none ∧
        exec (.getChannel [BitVec.ofNat 8 c.val]) s =
          .next (respond .ok ([BitVec.ofNat 8 c.val, 0x00] ++ r) s)) ∨
      ∃ d, (s.chan c).desc = some d ∧
        exec (.getChannel [BitVec.ofNat 8 c.val]) s =
          .next (respond .ok ([BitVec.ofNat 8 c.val, 0x01] ++ descriptorBytes d ++ r) s)) ∧
    r.length = 13 + 2 * (s.chan c).queue.length ∧
    (byteAt r 0).toNat =
      (match (s.chan c).state with
        | .unconfigured => 0
        | .safed => 1
        | .resting => 2
        | .waiting => 3
        | .holding => 4
        | .held => 5
        | .mark => 6
        | .space => 7
        | .pausing => 8
        | .recovering => 9
        | .fault => 10) ∧
    (byteAt r 1).getLsbD 0 = (s.chan c).target.isSome ∧
    (byteAt r 1).getLsbD 1 = (s.chan c).driven.isSome ∧
    (byteAt r 1).getLsbD 2 = (s.chan c).requested.isSome ∧
    (byteAt r 1).getLsbD 3 = (s.waiterPosition c).isSome ∧
    (byteAt r 1).getLsbD 4 = (s.chan c).lastFault.isSome ∧
    (byteAt r 1).getLsbD 5 = s.tokenHeld c ∧
    (byteAt r 1).getLsbD 6 = (s.chan c).abortPending ∧
    (byteAt r 1).getLsbD 7 = (s.chan c).stuckReported ∧
    byteAt r 2 = (s.chan c).target.getD 0 ∧ byteAt r 3 = (s.chan c).driven.getD 0 ∧
    byteAt r 4 = (s.chan c).requested.getD 0 ∧ byteAt r 5 = BitVec.ofNat 8 (s.chan c).marks ∧
    byteAt r 6 = BitVec.ofNat 8 ((s.waiterPosition c).getD 0) ∧
    (byteAt r 7).toNat =
      (match (s.chan c).lastFault.map (·.cause) with
        | none => 0
        | some .feedback => 1
        | some .driveTimeout => 2) ∧
    halfAt r 8 ++ halfAt r 10 = ((s.chan c).lastFault.map (·.timestamp)).getD 0 ∧
    byteAt r 12 = BitVec.ofNat 8 (s.chan c).queue.length ∧
    ∀ (i : Nat) (e : Entry), (s.chan c).queue[i]? = some e →
      byteAt r (13 + 2 * i) =
        (match e.kind with
          | .set => 1
          | .train => 2
          | .pause => 3) + (if e.origin = .mgmt then 0x80 else 0x00) ∧
      byteAt r (14 + 2 * i) = e.operand

/-- READ_EVENTS removes up to n records from the head and returns them, head first, each laid out byte by
byte (R168, R192); a count outside 1 to 8 is refused with BAD_FIELD 1 and nothing removed. -/
def Obligations.ReadEventsTakesRecordsFromTheHead : Prop :=
  (∀ r : EventRecord,
     (eventBytes r).length = 14 ∧ halfAt (eventBytes r) 0 = r.sequence ∧
     halfAt (eventBytes r) 2 ++ halfAt (eventBytes r) 4 = r.timestamp ∧
     (byteAt (eventBytes r) 6).toNat = kindCode r.kind ∧
     (byteAt (eventBytes r) 7).getLsbD 0 = r.channel.isSome ∧
     (byteAt (eventBytes r) 7).getLsbD 1 = r.value.isSome ∧
     (byteAt (eventBytes r) 7).getLsbD 2 = r.address.isSome ∧
     (byteAt (eventBytes r) 7).getLsbD 3 = r.cause.isSome ∧
     (byteAt (eventBytes r) 7).extractLsb' 4 4 = 0 ∧
     (byteAt (eventBytes r) 8).toNat = (r.channel.map (·.val)).getD 0 ∧
     byteAt (eventBytes r) 9 = r.value.getD 0 ∧ addrAt (eventBytes r) 10 = r.address.getD 0 ∧
     (byteAt (eventBytes r) 13).toNat =
       (match r.cause with
         | none => 0
         | some .command => 1
         | some .heartbeat => 2
         | some .safeLine => 3)) ∧
  ∀ (s : State) (n : Byte), Listening s →
    (n = 0 ∨ 8 < n.toNat → exec (.readEvents [n]) s = .next (respond .badField [1] s)) ∧
    (1 ≤ n.toNat ∧ n.toNat ≤ 8 →
      exec (.readEvents [n]) s =
        .next (respond .ok
          (BitVec.ofNat 8 (min n.toNat s.ev.queue.length) ::
            ((s.ev.queue.take n.toNat).map eventBytes).flatten)
          { s with ev := { s.ev with queue := s.ev.queue.drop n.toNat } }))

/-- READ_FLAGS returns the flag word, bits 15 to 8 first, and clears the flags, so that MINT# is released;
SET_ENABLES takes the word with bit 15 clear, MINT# following, and refuses it with bit 15 set (R166, R169,
R188, R193). -/
def Obligations.FlagsAndEnablesAreReadAndWritten : Prop :=
  (∀ s : State, Listening s → ∃ hi lo : Byte,
     exec (.readFlags []) s =
       .next (respond .ok [hi, lo] { s with ev := { s.ev with flags := 0, mint := false } }) ∧
     ∀ n : Fin 16, (hi ++ lo).getLsbD n.val = s.ev.flags.getLsbD n.val) ∧
  ∀ (s : State) (hi lo : Byte), Listening s →
    (hi.msb = true → exec (.setEnables [hi, lo]) s = .next (respond .badField [1] s)) ∧
    (hi.msb = false → ∃ (e : BitVec 15) (m : Bool),
      exec (.setEnables [hi, lo]) s =
        .next (respond .ok [] { s with ev := { s.ev with enables := e, mint := m } }) ∧
      (∀ n : Fin 15, e.getLsbD n.val = (hi ++ lo).getLsbD n.val) ∧
      (m = true ↔ ∃ n : Fin 15, s.ev.flags.getLsbD n.val = true ∧ e.getLsbD n.val = true))

/-! ### Management commands: acceptance and refusal -/

/-- A payload whose length is not the command's is answered BAD_LENGTH in every mode; a channel byte above 0Fh
BAD_CHANNEL, before any other check of the owning rule; a frame refused by test 1, 2 or 3 of R176 the
status of the first test that fails. Nothing else changes (R176, R183). -/
def Obligations.MalformedRequestsChangeNothing : Prop :=
  (∀ (s : State) (p : List Byte), Listening s →
     let refused : Host.Outcome State Fault Refusal := .next (respond .badLength [] s)
     (p.length ≠ 0 →
       exec (.getInfo p) s = refused ∧ exec (.getStatus p) s = refused ∧ exec (.start p) s = refused ∧
       exec (.stop p) s = refused ∧ exec (.enterSafe p) s = refused ∧ exec (.resume p) s = refused ∧
       exec (.readFlags p) s = refused ∧ exec (.resetDevice p) s = refused) ∧
     (p.length ≠ 1 →
       exec (.clearChannel p) s = refused ∧ exec (.getChannel p) s = refused ∧
       exec (.clearFault p) s = refused ∧ exec (.purge p) s = refused ∧
       exec (.readEvents p) s = refused) ∧
     (p.length ≠ 2 → exec (.queueWrite p) s = refused ∧ exec (.setEnables p) s = refused) ∧
     (p.length ≠ 6 → exec (.setDevice p) s = refused) ∧
     (p.length ≠ 23 → exec (.setChannel p) s = refused)) ∧
  (∀ (s : State) (b : Byte), Listening s → 16 ≤ b.toNat →
     let refused : Host.Outcome State Fault Refusal := .next (respond .badChannel [] s)
     exec (.getChannel [b]) s = refused ∧
     (s.ctl.mode = .config →
       exec (.clearChannel [b]) s = refused ∧
       ∀ p, p.length = 22 → exec (.setChannel (b :: p)) s = refused) ∧
     (s.ctl.mode = .run →
       exec (.purge [b]) s = refused ∧ ∀ v, exec (.queueWrite [b, v]) s = refused) ∧
     (s.ctl.mode = .run ∨ s.ctl.mode = .safe → exec (.clearFault [b]) s = refused)) ∧
  ∀ (s : State) (code len : Byte) (rest : List Byte), Listening s →
    (40 < len.toNat → exec (.badCommand [code, len]) s = .next (respond .badLength [] s)) ∧
    (len.toNat ≤ 40 → rest.length = len.toNat → ∀ crc : Byte,
      (crc ≠ crc8 (code :: len :: rest) →
        exec (.badCommand (code :: len :: rest ++ [crc])) s = .next (respond .badCrc [] s)) ∧
      (crc = crc8 (code :: len :: rest) →
        code.toNat ∉ [0x01, 0x02, 0x10, 0x11, 0x12, 0x13, 0x20, 0x21, 0x22, 0x23, 0x30, 0x31, 0x32,
          0x40, 0x41, 0x42, 0x7F] →
        exec (.badCommand (code :: len :: rest ++ [crc])) s = .next (respond .badCommand [] s)))

/-- The modes in which each command is taken, and the status of a command not taken: BUSY in a transition
mode, else WRONG_MODE, with nothing else changed (R182). -/
def Obligations.CommandsAreTakenByMode : Prop :=
  ∀ s : State, Listening s →
    let refused : Host.Outcome State Fault Refusal :=
      .next (respond
        (if s.ctl.mode = .config ∨ s.ctl.mode = .run ∨ s.ctl.mode = .safe then .wrongMode else .busy) [] s)
    let taken (i : Instr) : Prop := ∃ t, exec i s = .next t ∧
      t.mgmt.phase = .pending ∧ ∀ r, t.mgmt.response = some r → r.status ≠ .wrongMode ∧ r.status ≠ .busy
    taken (.getInfo []) ∧ taken (.getStatus []) ∧ (∀ b, taken (.getChannel [b])) ∧
    (∀ b, taken (.readEvents [b])) ∧ taken (.readFlags []) ∧ (∀ a b, taken (.setEnables [a, b])) ∧
    taken (.resetDevice []) ∧
    (s.ctl.mode = .config →
      (∀ p, p.length = 6 → taken (.setDevice p)) ∧ (∀ p, p.length = 23 → taken (.setChannel p)) ∧
      (∀ b, taken (.clearChannel [b])) ∧ taken (.start [])) ∧
    (s.ctl.mode ≠ .config →
      (∀ p, p.length = 6 → exec (.setDevice p) s = refused) ∧
      (∀ p, p.length = 23 → exec (.setChannel p) s = refused) ∧
      (∀ b, exec (.clearChannel [b]) s = refused) ∧ exec (.start []) s = refused) ∧
    (s.ctl.mode = .run ∨ s.ctl.mode = .safe →
      taken (.stop []) ∧ taken (.enterSafe []) ∧ ∀ b, taken (.clearFault [b])) ∧
    (s.ctl.mode ≠ .run → s.ctl.mode ≠ .safe →
      exec (.stop []) s = refused ∧ exec (.enterSafe []) s = refused ∧
      ∀ b, exec (.clearFault [b]) s = refused) ∧
    (s.ctl.mode = .safe → taken (.resume [])) ∧
    (s.ctl.mode ≠ .safe → exec (.resume []) s = refused) ∧
    (s.ctl.mode = .run → (∀ b, taken (.purge [b])) ∧ ∀ a b, taken (.queueWrite [a, b])) ∧
    (s.ctl.mode ≠ .run →
      (∀ b, exec (.purge [b]) s = refused) ∧ ∀ a b, exec (.queueWrite [a, b]) s = refused) ∧
    (s.ctl.mode = .config → s.pins.safeHigh = false →
      exec (.start []) s = .next (respond .safeLine [] s)) ∧
    (s.ctl.mode = .safe → exec (.enterSafe []) s = .next (respond .ok [] s))

/-! ### Management commands: configuration -/

/-- SET_DEVICE checks the settings in ascending index, then the address, and stores all three (R154). -/
def Obligations.SetDeviceStoresOrRefuses : Prop :=
  ∀ (s : State) (p : List Byte), Listening s → s.ctl.mode = .config → p.length = 6 →
    exec (.setDevice p) s = .next
      (if (1 ≤ (halfAt p 3).toNat ∧ (halfAt p 3).toNat ≤ 9) ∨ 60000 < (halfAt p 3).toNat then
        respond .badField [2] s
      else if byteAt p 5 = 0 ∨ 250 < (byteAt p 5).toNat then respond .badField [3] s
      else if ∃ c : Chan, (s.chan c).desc.map (·.target) = some (addrAt p 0) then
        respond .conflict [] s
      else
        respond .ok []
          { s with
            ctl := { s.ctl with
              heartbeatAddress := addrAt p 0, heartbeatTimeout := halfAt p 3,
              stallLimit := byteAt p 5 } })

/-- A refused SET_CHANNEL changes nothing but its response: BAD_FIELD with the index of R6 and R7, then
CONFLICT by R8 (R9). An accepted one: the slot and its record, the drive request, the detachment of a
drive in flight, and nothing else; one that meets a pass-through cycle to its new address is held back
(R10, R11, R95, R179). -/
def Obligations.SetChannelIsRefusedAcceptedOrHeldBack : Prop :=
  (∀ (s : State) (p : List Byte) (c : Chan), Listening s → s.ctl.mode = .config → p.length = 23 →
     (byteAt p 0).toNat = c.val →
     (∀ n, descriptorFailure (p.drop 1) = some n →
       exec (.setChannel p) s = .next (respond .badField [BitVec.ofNat 8 n] s)) ∧
     (descriptorFailure (p.drop 1) = none →
       (∃ k : Chan, k ≠ c ∧ (s.chan k).desc.map (·.target) = some (descriptorOf (p.drop 1)).target) ∨
         (descriptorOf (p.drop 1)).target = s.ctl.heartbeatAddress →
       exec (.setChannel p) s = .next (respond .conflict [] s))) ∧
  ∀ (s : State) (p : List Byte) (c : Chan) (d : Descriptor), Listening s → s.ctl.mode = .config →
    p.length = 23 → (byteAt p 0).toNat = c.val → descriptorFailure (p.drop 1) = none →
    descriptorOf (p.drop 1) = d →
    (∀ k : Chan, k ≠ c → (s.chan k).desc.map (·.target) ≠ some d.target) →
    d.target ≠ s.ctl.heartbeatAddress →
    ((∀ k, s.port.cycle = some k → s.port.state = .passWait ∨ s.port.state = .passOn →
        k.address ≠ d.target) →
      exec (.setChannel p) s = .next (respond .ok [] (arbitrate
        { s.setChan c (acceptedChannel d (s.chan c)) with
          down := detachedBus c s.down
          mgmt := { s.mgmt with pendingSet := none } }))) ∧
    ((∃ k, s.port.cycle = some k ∧ (s.port.state = .passWait ∨ s.port.state = .passOn) ∧
        k.address = d.target) →
      exec (.setChannel p) s =
        .next { s with mgmt := { s.mgmt with
          phase := .pending, response := none, pendingSet := some { channel := c, descriptor := d } } })

/-- The pending SET_CHANNEL waits while a pass-through cycle to its address is in progress; when none is, it is
accepted with all of R10 to R12: its channel stands as after any acceptance, its safe drive is requested and a
drive in flight for it is detached, it is pending no more, and its OK is ready while its own transaction is
open (R178, R179). -/
def Obligations.HeldBackSetChannelIsAccepted : Prop :=
  ∀ (s : State) (q : PendingSet), s.live = true → s.mgmt.pendingSet = some q →
    ((∃ k, s.port.cycle = some k ∧ (s.port.state = .passWait ∨ s.port.state = .passOn) ∧
        k.address = q.descriptor.target) →
      exec .heldSetChannelAccept s = .next s) ∧
    ((∀ k, s.port.cycle = some k → s.port.state = .passWait ∨ s.port.state = .passOn →
        k.address ≠ q.descriptor.target) →
      exec .heldSetChannelAccept s = .next (arbitrate
        { s.setChan q.channel (acceptedChannel q.descriptor (s.chan q.channel)) with
          down := detachedBus q.channel s.down
          mgmt :=
            if s.mgmt.phase = .pending then
              { s.mgmt with
                pendingSet := none, phase := .pending
                response := some { status := .ok, payload := [] } }
            else { s.mgmt with pendingSet := none } }))

/-- CLEAR_CHANNEL: NOT_CONFIGURED for an unconfigured channel; else the slot is as reset leaves it, last
fault and an unset mark apart, and a drive in flight is detached (R13, R95). -/
def Obligations.ClearChannelEmptiesTheSlot : Prop :=
  ∀ (s : State) (c : Chan), Listening s → s.ctl.mode = .config →
    ((s.chan c).desc = none →
      exec (.clearChannel [BitVec.ofNat 8 c.val]) s = .next (respond .notConfigured [] s)) ∧
    ((s.chan c).desc.isSome = true →
      exec (.clearChannel [BitVec.ofNat 8 c.val]) s = .next (respond .ok []
        { s.setChan c
            { Channel.empty with
              lastFault := (s.chan c).lastFault, transitionMark := (s.chan c).transitionMark } with
          down := detachedBus c s.down }))

/-! ### Modes -/

/-- START in CONFIG and RESUME in SAFE with SAFE# high: ENTERING_RUN with rest drives, or RUN in the same
event when no drive is to be waited for; with SAFE# low they are refused (R142, R143, R145). The drives and
marks of a transition go to every configured channel not in FAULT, and to no other (R103). -/
def Obligations.StartAndResumeBeginRun : Prop :=
  (∀ (s : State) (value : Descriptor → Byte),
     requestTransitionDrives value s = { s with channels := (requestTransitionDrives value s).channels } ∧
     ∀ c : Chan,
       (∀ d, (s.chan c).desc = some d → (s.chan c).state ≠ .fault →
         (requestTransitionDrives value s).chan c =
           { s.chan c with slot := some (value d), transitionMark := true }) ∧
       ((s.chan c).desc = none ∨ (s.chan c).state = .fault →
         (requestTransitionDrives value s).chan c = s.chan c)) ∧
  ∀ (s : State) (i : Instr), Listening s →
    (i = .start [] ∧ s.ctl.mode = .config) ∨ (i = .resume [] ∧ s.ctl.mode = .safe) →
    (s.pins.safeHigh = false → exec i s = .next (respond .safeLine [] s)) ∧
    (s.pins.safeHigh = true → HasHealthyChannel s →
      exec i s = .next (respond .accepted [] (arbitrate (requestTransitionDrives (·.rest)
        { s with ctl := { s.ctl with mode := .enteringRun } })))) ∧
    (s.pins.safeHigh = true → ¬ HasHealthyChannel s → (∀ c : Chan, (s.chan c).transitionMark = false) →
      exec i s = .next (respond .accepted [] (arbitrate (record .modeChanged none (some 2) none none
        { s with ctl := { s.ctl with
          mode := .run
          heartbeat :=
            if s.ctl.heartbeatTimeout = 0 then none
            else some (s.ctl.heartbeatTimeout.toNat + 1) } }))))

/-- STOP in RUN, ENTER_SAFE in RUN, the fall of SAFE# in RUN and the expiry of the heartbeat take the mode
out of RUN as R146 gives, each to its mode and with its cause; the expiry records HEARTBEAT_LOST first.
With no configured channel outside FAULT the last two pass through ENTERING_SAFE to SAFE in the one event,
MODE_CHANGED last (R142). SAFE# falling in ENTERING_RUN turns the transition to SAFE, and completes it when no
mark is yes; in the other modes the fall changes the level of the pin alone, as its rise does in every mode
(R148). -/
def Obligations.ModeLeavesRun : Prop :=
  (∀ s : State, s.live = true → s.ctl.mode = .run → HasHealthyChannel s →
     (s.mgmt.phase = .request →
       (∃ u, LeftRun .enteringConfig s.ctl.lastSafeCause s u ∧
         exec (.stop []) s = .next (respond .accepted [] (arbitrate u))) ∧
       ∃ u, LeftRun .enteringSafe (some .command) s u ∧
         exec (.enterSafe []) s = .next (respond .accepted [] (arbitrate u))) ∧
     (s.pins.safeHigh = true →
       ∃ u, LeftRun .enteringSafe (some .safeLine) { s with pins := { s.pins with safeHigh := false } } u ∧
         exec .safeLineFall s = .next (arbitrate u)) ∧
     (s.ctl.heartbeat = some 0 →
       ∃ u, LeftRun .enteringSafe (some .heartbeat) (record .heartbeatLost none none none none s) u ∧
         exec .heartbeatExpiry s = .next (arbitrate u))) ∧
  (∀ s : State, s.live = true → s.ctl.mode = .run → ¬ HasHealthyChannel s →
     (∀ c : Chan, (s.chan c).transitionMark = false) →
     let reached (cause : SafeCause) (w u : State) : Prop :=
       ∃ v, LeftRun .enteringSafe (some cause) w v ∧
         u = record .modeChanged none (some 4) none (some cause)
           { v with ctl := { v.ctl with mode := .safe } }
     (s.pins.safeHigh = true →
       ∃ u, reached .safeLine { s with pins := { s.pins with safeHigh := false } } u ∧
         exec .safeLineFall s = .next (arbitrate u)) ∧
     (s.ctl.heartbeat = some 0 →
       ∃ u, reached .heartbeat (record .heartbeatLost none none none none s) u ∧
         exec .heartbeatExpiry s = .next (arbitrate u))) ∧
  ∀ s : State,
    (s.live = true → s.pins.safeHigh = true → s.ctl.mode = .enteringRun →
      let u : State :=
        { s with
          ctl := { s.ctl with mode := .enteringSafe, lastSafeCause := some .safeLine }
          pins := { s.pins with safeHigh := false } }
      (HasHealthyChannel s →
        exec .safeLineFall s = .next (arbitrate (requestTransitionDrives (·.safe) u))) ∧
      (¬ HasHealthyChannel s → (∃ c : Chan, (s.chan c).transitionMark = true) →
        exec .safeLineFall s = .next (arbitrate u)) ∧
      (¬ HasHealthyChannel s → (∀ c : Chan, (s.chan c).transitionMark = false) →
        exec .safeLineFall s = .next (arbitrate
          (record .modeChanged none (some 4) none (some .safeLine)
            { u with ctl := { u.ctl with mode := .safe } })))) ∧
    (s.live = true → s.pins.safeHigh = true → s.ctl.mode ≠ .run → s.ctl.mode ≠ .enteringRun →
      exec .safeLineFall s = .next (arbitrate { s with pins := { s.pins with safeHigh := false } })) ∧
    (s.live = false ∨ s.pins.safeHigh = false →
      exec .safeLineFall s = .next { s with pins := { s.pins with safeHigh := false } }) ∧
    exec .safeLineRise s = .next { s with pins := { s.pins with safeHigh := true } }

/-- The transitions complete: RUN with the channels RESTING and the heartbeat started, SAFE with the last safe
cause, CONFIG with the FAULT channels SAFED; STOP in SAFE reaches CONFIG at once; and with no configured
channel outside FAULT the mode passes through the transition mode in the one event, with one MODE_CHANGED,
for the mode reached (R142, R144, R149, R150). -/
def Obligations.TransitionsComplete : Prop :=
  (∀ s : State, s.live = true → (∀ c : Chan, (s.chan c).transitionMark = false) →
     (s.ctl.mode = .enteringRun →
       ∃ u, exec .enteringRunComplete s = .next (record .modeChanged none (some 2) none none u) ∧
         u = { s with
           channels := u.channels
           ctl := { s.ctl with
             mode := .run
             heartbeat :=
               if s.ctl.heartbeatTimeout = 0 then none
               else some (s.ctl.heartbeatTimeout.toNat + 1) } } ∧
         ∀ c : Chan,
           (∀ d, (s.chan c).desc = some d → (s.chan c).state ≠ .fault →
             u.chan c = { outOfCadence .resting d.rest (s.chan c) with queue := [] }) ∧
           ((s.chan c).desc = none ∨ (s.chan c).state = .fault → u.chan c = s.chan c)) ∧
     (s.ctl.mode = .enteringSafe →
       exec .enteringSafeComplete s = .next (record .modeChanged none (some 4) none s.ctl.lastSafeCause
         { s with ctl := { s.ctl with mode := .safe } })) ∧
     (s.ctl.mode = .enteringConfig →
       ∃ t, exec .enteringConfigComplete s = .next t ∧ ReachedConfig s t) ∧
     (s.ctl.mode = .safe → s.mgmt.phase = .request →
       ∃ t, exec (.stop []) s = .next (respond .ok [] t) ∧ ReachedConfig s t)) ∧
  ∀ s : State, Listening s → s.ctl.mode = .run → ¬ HasHealthyChannel s →
    (∀ c : Chan, (s.chan c).transitionMark = false) →
    (∃ u, LeftRun .enteringSafe (some .command) s u ∧
      exec (.enterSafe []) s = .next (respond .accepted [] (arbitrate
        (record .modeChanged none (some 4) none (some .command)
          { u with ctl := { u.ctl with mode := .safe } })))) ∧
    ∃ u t, LeftRun .enteringConfig s.ctl.lastSafeCause s u ∧ ReachedConfig u t ∧
      exec (.stop []) s = .next (respond .accepted [] (arbitrate t))

/-- A tick of the millisecond timebase: the timestamp rises by one, modulo 2^32, and every running
millisecond timer has one tick less to come; nothing else changes (R155, R156). Before it every expiry still
due, and then every appended head that its state takes (R30), is taken as by its own row, so that none is left
to a later tick (notes/assumptions/5.md, notes/assumptions/22.md); with none due and no head waiting nothing
comes before the tick. -/
def Obligations.TickAdvancesTimersAndTimestamp : Prop :=
  ∀ s : State, s.live = true → ∃ (expiries takes : List Instr) (v u t : State),
    (∀ i ∈ expiries, isExpiry i = true) ∧ Leads expiries s v ∧ (NoneDue s → v = s) ∧
    (∀ i ∈ takes, isHeadTake i = true) ∧ Leads takes v u ∧ (NoHeadWaits v → u = v) ∧
    (Sound s → NoneDue u ∧ NoHeadWaits u) ∧ exec .timestampTick s = .next t ∧
    t = { u with
      channels := t.channels
      ctl := { u.ctl with
        timestamp := u.ctl.timestamp + 1, heartbeat := u.ctl.heartbeat.map (· - 1) } } ∧
    ∀ c : Chan, t.chan c =
      { u.chan c with
        minHold := (u.chan c).minHold.map (· - 1), maxHold := (u.chan c).maxHold.map (· - 1)
        markTimer := (u.chan c).markTimer.map (· - 1), spaceTimer := (u.chan c).spaceTimer.map (· - 1)
        pauseTimer := (u.chan c).pauseTimer.map (· - 1), recovery := (u.chan c).recovery.map (· - 1)
        cmp := (u.chan c).cmp.map fun k =>
          { k with settle := k.settle.map (· - 1), filter := k.filter.map (· - 1) } }

/-! ### Reset, supply and clock -/

/-- A reset by RESET#, by the supply, or by the close of a transaction that armed one, puts every block in
its reset state; a host cycle in progress is held in ENDING with FFh for a read, and a transaction that
is open discards (R107, R125, R157, R158, R172, R180, R186). RESET# and the supply reset at once with CLK
stopped too, as R157 says without a word of CLK (notes/assumptions/6.md); that a fall of the supply holds a
host cycle as RESET# does is the model's deduction (notes/assumptions/10.md), and so is the field `released`
of a host gone before its answer (notes/assumptions/9.md). -/
def Obligations.ResetsSetEveryBlock : Prop :=
  ∀ s : State,
    let port : HostPort :=
      match s.port.cycle with
      | none => HostPort.idle
      | some k =>
        if s.port.released then HostPort.idle
        else
          { HostPort.idle with
            state := .ending
            cycle := some { k with
              ending := some .normal, answer := if k.kind = .read then some 0xFF else none } }
    let after (phase : Phase) (pins : Pins) : State :=
      { State.reset with
        port := port, mgmt := { MgmtPort.reset with phase := phase }, pins := pins, pending := s.pending }
    (s.pins.resetLow = false →
      exec .resetAssert s =
        .next (after (if s.pins.mcsLow then .discarding else .closed) { s.pins with resetLow := true })) ∧
    (s.pins.supplyOk = true →
      exec .supplyFall s =
        .next (after (if s.pins.mcsLow then .discarding else .closed) { s.pins with supplyOk := false })) ∧
    (s.pins.clkRunning = true → s.pins.mcsLow = true → s.mgmt.resetArmed = true →
      exec .transactionClose s = .next (after .closed { s.pins with mcsLow := false }))

/-- The stop of CLK changes its level alone, and so does a release of RESET# or a return of the supply that
does not end the hold. The release that ends it takes MCS# and the host strobes at the levels they show
(R157, R173, R180); while CLK has run these are the levels already taken. When CLK runs again each block goes
on from the state it held, and an input that alone shows another level than the one last taken is taken as
its own row takes it (R195; how the levels shown are held, and what happens when several have changed, is
notes/assumptions/6.md). -/
def Obligations.ReleasesAndTheClock : Prop :=
  (∀ s : State, exec .clkStops s = .next { s with pins := { s.pins with clkRunning := false } }) ∧
  (∀ s : State,
     let level (i : Instr) (t : State) : Prop :=
       let taken (port : HostPort) : State :=
         { t with
           port := port, pins := { t.pins with strobes := none }
           mgmt := { t.mgmt with phase := if s.pins.mcsLow then .discarding else .closed } }
       let arrived (h : HostStrobes) : HostPort :=
         answeredPort h.kind h.address h.data none .normal (if h.kind = .read then some 0xFF else none)
       (s.heldInReset = false ∨ t.heldInReset = true → exec i s = .next t) ∧
       (s.heldInReset = true → t.heldInReset = false →
         (Sound s → s.pins.clkRunning = true → exec i s = .next t) ∧
         (s.pins.strobes = none → exec i s = .next (taken s.port)) ∧
         (s.pins.strobes = some none → s.port.state = .ending →
           exec i s = .next (taken HostPort.idle)) ∧
         (s.pins.strobes = some none → s.port.state = .idle → exec i s = .next (taken s.port)) ∧
         (∀ h, s.pins.strobes = some (some h) → s.port.state = .idle →
           exec i s = .next (taken (arrived h))) ∧
         ∀ h k, s.pins.strobes = some (some h) → s.port.state = .ending → s.port.cycle = some k →
           exec i s = .next (taken
             (if h.kind = .invalid ∨ h.kind = k.kind then s.port else arrived h)))
     level .resetRelease { s with pins := { s.pins with resetLow := false } } ∧
     level .supplyWithinRange { s with pins := { s.pins with supplyOk := true } }) ∧
  ∀ s : State, s.pins.clkRunning = false → s.heldInReset = false →
    let running (pins : Pins) : State := { s with pins := { pins with clkRunning := true } }
    let select : Prop := s.pins.mcsLow = true ↔ s.mgmt.phase ≠ .closed
    let host : Prop := s.pins.strobes = none
    let safe : Prop := s.pins.safeHigh = true
    let sense (c : Chan) : Prop := ∀ k, (s.chan c).cmp = some k →
      (k.phase = .agree → k.expected = some s.pins.sense[c.val]) ∧
      (k.phase = .filtering ∨ k.phase = .confirmed → k.expected ≠ some s.pins.sense[c.val])
    (select → host → safe → (∀ c, sense c) → exec .clkRunsAgain s = .next (running s.pins)) ∧
    (¬ select → host → safe → (∀ c, sense c) →
      exec .clkRunsAgain s =
        exec (if s.pins.mcsLow then .transactionOpen else .transactionClose)
          (running { s.pins with mcsLow := !s.pins.mcsLow })) ∧
    (select → host → ¬ safe → (∀ c, sense c) →
      exec .clkRunsAgain s = exec .safeLineFall (running { s.pins with safeHigh := true })) ∧
    (∀ c, select → host → safe → (∀ k : Chan, k ≠ c → sense k) →
      exec .clkRunsAgain s =
        exec (.senseChange c s.pins.sense[c.val])
          (running { s.pins with sense := s.pins.sense.set c.val (!s.pins.sense[c.val]) })) ∧
    (select → s.pins.strobes = some none → s.port.state ≠ .idle → safe → (∀ c, sense c) →
      exec .clkRunsAgain s = exec .hostCycleEnd (running { s.pins with strobes := none })) ∧
    ∀ h, select → s.pins.strobes = some (some h) → s.port.state = .idle → safe → (∀ c, sense c) →
      exec .clkRunsAgain s =
        exec
          (match h with
            | .read a => if s.governed a = none then .passThroughArrival a none else .governedRead a
            | .write a v =>
              if s.governed a = none then .passThroughArrival a (some v) else .governedWrite a v
            | .invalid a => .invalidCycle a)
          (running { s.pins with strobes := none })

/-- While CLK is stopped no event is taken at any block, and every output stays as it was (R195): the other
commands move input levels alone, and the host strobes are among these. The commands of RESET# and of the
supply are not among them, since R157 resets at the assertion without a word of CLK: that reading, and the
field that holds what the strobes show, are notes/assumptions/6.md. -/
def Obligations.StoppedClockFreezesEveryBlock : Prop :=
  (∀ (i : Instr) (s t : State), s.pins.clkRunning = false → i ≠ .clkRunsAgain →
     i ≠ .resetAssert → i ≠ .resetRelease → i ≠ .supplyFall → i ≠ .supplyWithinRange →
     exec i s = .next t →
     t = { s with pins := t.pins } ∧ t.hwait = s.hwait ∧ t.herr = s.herr ∧ t.hd = s.hd ∧
     t.downCycle = s.downCycle ∧ t.mso = s.mso) ∧
  ∀ s : State, s.pins.clkRunning = false →
    let asserted : Prop :=
      (s.pins.strobes = none ∧ s.port.state ≠ .idle ∧ s.port.released = false) ∨
        ∃ h, s.pins.strobes = some (some h)
    let shows (strobes : Option HostStrobes) (i : Instr) : Prop :=
      exec i s = .next { s with pins := { s.pins with strobes := some strobes } }
    (asserted → shows none .hostCycleEnd) ∧
    (¬ asserted → ∀ (a : Addr) (v : Byte),
      (s.heldInReset = true →
        shows (some (.read a)) (.hostCycleInReset .read a v) ∧
        shows (some (.write a v)) (.hostCycleInReset .write a v) ∧
        shows (some (.invalid a)) (.hostCycleInReset .invalid a v)) ∧
      (s.heldInReset = false →
        shows (some (.invalid a)) (.invalidCycle a) ∧
        (s.governed a ≠ none →
          shows (some (.read a)) (.governedRead a) ∧
          shows (some (.write a v)) (.governedWrite a v)) ∧
        (s.governed a = none →
          shows (some (.read a)) (.passThroughArrival a none) ∧
          shows (some (.write a v)) (.passThroughArrival a (some v)))))

/-! ### The transaction -/

/-- MCS# falling opens a transaction, which discards behind a pending request and in reset; MCS# rising closes
it, its response lost and a pending request kept (R173, R178, R179, R180). RESET_DEVICE is answered OK and
arms the reset; nothing else changes at that event (R186). -/
def Obligations.TransactionOpensAndCloses : Prop :=
  (∀ s : State, s.pins.clkRunning = true →
     (s.pins.mcsLow = false →
       exec .transactionOpen s = .next
         { s with
           pins := { s.pins with mcsLow := true }
           mgmt := { s.mgmt with
             phase :=
               if s.mgmt.pendingSet ≠ none ∨ s.pins.resetLow = true ∨ s.pins.supplyOk = false then
                 .discarding
               else .request
             response := none } }) ∧
     (s.pins.mcsLow = true → s.mgmt.resetArmed = false →
       exec .transactionClose s = .next
         { s with
           pins := { s.pins with mcsLow := false }
           mgmt := { s.mgmt with phase := .closed, response := none } })) ∧
  ∀ s : State, Listening s →
    exec (.resetDevice []) s = .next
      { s with mgmt := { s.mgmt with
        phase := .pending, response := some { status := .ok, payload := [] }, resetArmed := true } }

/-- A request taken leaves phase PENDING with its response ready. With the sync byte a response that is ready is
being sent, as its frame on MSO; after its CRC byte MSO carries FFh (R177, R181, R189). -/
def Obligations.ResponseFrameIsSent : Prop :=
  (∀ (status : Status) (payload : List Byte) (s : State),
     respond status payload s =
       { s with mgmt := { s.mgmt with
         phase := .pending, response := some { status := status, payload := payload } } }) ∧
  ∀ (s : State) (r : Response), s.live = true → s.mgmt.response = some r →
    (s.mgmt.phase = .pending → s.mso = [0xFF] ∧ ∃ (t : State) (code : Byte),
      exec .syncByteSent s = .next t ∧ t = { s with mgmt := { s.mgmt with phase := .response } } ∧
      t.mso = [0xA5, code, BitVec.ofNat 8 r.payload.length] ++ r.payload ++
        [crc8 ([code, BitVec.ofNat 8 r.payload.length] ++ r.payload)] ∧
      code.toNat =
        (match r.status with
          | .ok => 0x00
          | .accepted => 0x01
          | .badCrc => 0x10
          | .badCommand => 0x11
          | .badLength => 0x12
          | .wrongMode => 0x20
          | .busy => 0x21
          | .badField => 0x30
          | .badChannel => 0x31
          | .notConfigured => 0x32
          | .notFaulted => 0x33
          | .safeLine => 0x34
          | .conflict => 0x35
          | .full => 0x36
          | .blocked => 0x37)) ∧
    (s.mgmt.phase = .response → ∃ t, exec .responseCrcSent s = .next t ∧
      t = { s with mgmt := { s.mgmt with phase := .spent } } ∧ t.mso = [0xFF])

/-! ### The host bus -/

/-- An address is governed by a channel exactly when it is that channel's target, where the target addresses are
distinct (R1, R110). A governed read is answered in its arrival event from the read view, in every mode and
state, and changes nothing but the port: DRIVEN is the driven value or 00h, COMMANDED the value or count
that the statement after this one gives (R34, R116). -/
def Obligations.GovernedReadIsAnsweredFromTheView : Prop :=
  (∀ (s : State) (a : Addr) (c : Chan), AddressLaw s →
     (s.governed a = some c ↔ (s.chan c).desc.map (·.target) = some a) ∧
     (s.governed a = none ↔ ∀ k : Chan, (s.chan k).desc.map (·.target) ≠ some a)) ∧
  ∀ (s : State) (a : Addr) (c : Chan) (d : Descriptor), CycleCanArrive s → s.governed a = some c →
    (s.chan c).desc = some d → ∃ v : Byte,
      exec (.governedRead a) s =
        .next { s with port := answeredPort .read a none (some (.governed c)) .normal (some v) } ∧
      (d.view = .driven → v = (s.chan c).driven.getD 0) ∧
      (d.view = .commanded → d.kind.holdPart.isSome = true → v = holdCommanded (s.chan c)) ∧
      (d.view = .commanded → d.kind.trainPart.isSome = true → v = trainCommanded (s.chan c))

/-- The COMMANDED view of a HOLD channel: the tail of its queue, else its intended value, which is by state
the value the rule's table gives (R35). That of a TRAIN channel: the marks its state still promises and the
counts of the TRAIN entries queued, saturated at 255; 00h outside RUN (R36). -/
def Obligations.CommandedViewsByKind : Prop :=
  (∀ (s : State) (c : Chan) (d : Descriptor), Sound s → (s.chan c).desc = some d →
     d.kind.holdPart.isSome = true →
     (∀ (q : List Entry) (e : Entry), (s.chan c).queue = q ++ [e] → holdCommanded (s.chan c) = e.operand) ∧
     ((s.chan c).queue = [] →
       ((s.chan c).state = .safed ∨ (s.chan c).state = .fault → holdCommanded (s.chan c) = d.safe) ∧
       ((s.chan c).state = .resting ∨ (s.chan c).state = .recovering →
         holdCommanded (s.chan c) = d.rest) ∧
       ((s.chan c).state = .waiting → some (holdCommanded (s.chan c)) = (s.chan c).requested) ∧
       ((s.chan c).state = .holding ∨ (s.chan c).state = .held →
         some (holdCommanded (s.chan c)) = (s.chan c).target)) ∧
     (s.ctl.mode ≠ .run → holdCommanded (s.chan c) = d.safe)) ∧
  (∀ x : Channel,
    (trainCommanded x).toNat = min 255
      ((match x.state with
        | .mark => if x.abortPending then 1 else x.marks
        | .space => x.marks
        | .waiting => (x.requested.getD 0).toNat
        | .unconfigured | .safed | .fault | .resting | .holding | .held | .pausing | .recovering => 0) +
        ((x.queue.filter fun e => e.kind = .train).map fun e => e.operand.toNat).sum)) ∧
  ∀ (s : State) (c : Chan) (d : Descriptor), Sound s → (s.chan c).desc = some d →
    d.kind.trainPart.isSome = true → s.ctl.mode ≠ .run → trainCommanded (s.chan c) = 0x00

/-- A governed write outside RUN, or in RUN to a FAULT channel, is discarded with BLOCKED_WRITE and a
normal end in its arrival event; nothing else changes (R117). -/
def Obligations.GovernedWriteIsBlocked : Prop :=
  ∀ (s : State) (a : Addr) (v : Byte) (c : Chan), CycleCanArrive s → s.governed a = some c →
    s.ctl.mode ≠ .run ∨ (s.chan c).state = .fault →
    exec (.governedWrite a v) s = .next
      { recordChannel .blockedWrite c v s with
        port := answeredPort .write a (some v) (some (.governed c)) .normal none }

/-- A governed write to a HOLD channel in RUN: absorbed when it repeats the tail or, on an empty queue, the
intended value; else appended; at a full queue dropped with QUEUE_FULL or held under the stall, by the
full policy (R22, R26, R27, R28, R118, R119). -/
def Obligations.HoldWriteIsAbsorbedQueuedOrHeld : Prop :=
  ∀ (s : State) (a : Addr) (v : Byte) (c : Chan) (d : Descriptor), CycleCanArrive s →
    s.governed a = some c → (s.chan c).desc = some d → d.kind.holdPart.isSome = true →
    s.ctl.mode = .run → (s.chan c).state ≠ .fault →
    let answered : HostPort := answeredPort .write a (some v) (some (.governed c)) .normal none
    let absorbed : Prop :=
      (∃ e, (s.chan c).queue.getLast? = some e ∧ e.operand = v) ∨
        ((s.chan c).queue = [] ∧
          (if (s.chan c).state = .waiting then (s.chan c).requested else (s.chan c).target) = some v)
    (absorbed → exec (.governedWrite a v) s = .next { s with port := answered }) ∧
    (¬ absorbed → (s.chan c).queue.length < 8 →
      exec (.governedWrite a v) s = .next
        { s.setChan c { s.chan c with
            queue := (s.chan c).queue ++ [{ kind := .set, operand := v, origin := .host }] } with
          port := answered }) ∧
    (¬ absorbed → 8 ≤ (s.chan c).queue.length → d.policy = .discard →
      exec (.governedWrite a v) s = .next { recordChannel .queueFull c v s with port := answered }) ∧
    (¬ absorbed → 8 ≤ (s.chan c).queue.length → d.policy = .stall →
      exec (.governedWrite a v) s = .next
        { s with
          port :=
            { state := .stalled
              cycle := some
                { kind := .write, address := a, data := some v, decode := some (.governed c),
                  ending := none, answer := none }
              stallTimer := some s.ctl.stallLimit.toNat
              held := some
                { channel := c, data := v, entry := { kind := .set, operand := v, origin := .host } }
              released := false } })

/-- A governed write to a TRAIN channel in RUN, by its data byte: counts and pauses are entries, never
absorbed, and undefined data is refused with BAD_DATA whether or not the queue is full (R24, R26 to
R28). The ABORT control 00h has a statement of its own. -/
def Obligations.TrainWriteIsDecodedByItsByte : Prop :=
  ∀ (s : State) (a : Addr) (v : Byte) (c : Chan) (d : Descriptor), CycleCanArrive s →
    s.governed a = some c → (s.chan c).desc = some d → d.kind.trainPart.isSome = true →
    s.ctl.mode = .run → (s.chan c).state ≠ .fault →
    let answered : HostPort := answeredPort .write a (some v) (some (.governed c)) .normal none
    let taken (e : Entry) : Prop :=
      ((s.chan c).queue.length < 8 →
        exec (.governedWrite a v) s = .next
          { s.setChan c { s.chan c with queue := (s.chan c).queue ++ [e] } with port := answered }) ∧
      (8 ≤ (s.chan c).queue.length → d.policy = .discard →
        exec (.governedWrite a v) s = .next { recordChannel .queueFull c v s with port := answered }) ∧
      (8 ≤ (s.chan c).queue.length → d.policy = .stall →
        exec (.governedWrite a v) s = .next
          { s with
            port :=
              { state := .stalled
                cycle := some
                  { kind := .write, address := a, data := some v, decode := some (.governed c),
                    ending := none, answer := none }
                stallTimer := some s.ctl.stallLimit.toNat
                held := some { channel := c, data := v, entry := e }
                released := false } })
    (0x01 ≤ v.toNat ∧ v.toNat ≤ 0x3F → taken { kind := .train, operand := v, origin := .host }) ∧
    (0x81 ≤ v.toNat ∧ v.toNat ≤ 0x8F →
      taken { kind := .pause, operand := BitVec.ofNat 8 (v.toNat - 0x80), origin := .host }) ∧
    ((0x40 ≤ v.toNat ∧ v.toNat ≤ 0x80) ∨ 0x90 ≤ v.toNat →
      exec (.governedWrite a v) s = .next { recordChannel .badData c v s with port := answered })

/-- An ABORT taken by a TRAIN channel empties its queue, acts by the state and records TRAIN_ABORTED with
the marks that will not be driven (R25, R69 to R73); a governed write of 00h is one. -/
def Obligations.AbortActsByTheState : Prop :=
  (∀ (s : State) (c : Chan) (d : Descriptor), (s.chan c).desc = some d →
    let x : Channel := { s.chan c with queue := [] }
    let aborted (marks : Nat) (w : State) : Prop :=
      abortTrain c d s = recordChannel .trainAborted c (BitVec.ofNat 8 marks) w
    (x.state = .mark → x.abortPending = false →
      aborted (x.marks - 1) (s.setChan c { x with abortPending := true })) ∧
    (x.state = .mark → x.abortPending = true → aborted 0 (s.setChan c x)) ∧
    (x.state = .space →
      aborted x.marks (s.setChan c
        { x with
          state := .recovering, marks := 0, trainCount := 0, abortPending := false, spaceTimer := none
          recovery :=
            if x.spaceTimer = none ∨ d.gap = 0 then none else some (d.gap.toNat + 1) })) ∧
    (∀ q, x.state = .waiting → x.requested = some q →
      aborted q.toNat (waiterRemoved c d (s.setChan c { x with state := .resting, requested := none }))) ∧
    (x.state = .pausing →
      aborted 0 (s.setChan c { x with state := .resting, pauseTimer := none })) ∧
    (x.state ≠ .mark → x.state ≠ .space → x.state ≠ .waiting → x.state ≠ .pausing →
      aborted 0 (s.setChan c x))) ∧
  ∀ (s : State) (a : Addr) (c : Chan) (d : Descriptor), CycleCanArrive s → s.governed a = some c →
    (s.chan c).desc = some d → d.kind.trainPart.isSome = true → s.ctl.mode = .run →
    (s.chan c).state ≠ .fault →
    exec (.governedWrite a 0x00) s = .next
      { abortTrain c d s with
        port := answeredPort .write a (some 0x00) (some (.governed c)) .normal none }

/-- QUEUE_WRITE by the table of R33: refused for an unconfigured or FAULT channel with BLOCKED_WRITE, for
undefined data with BAD_DATA, at a full queue with QUEUE_FULL; else absorbed or appended with origin MGMT; an
ABORT acts by the state of the channel, and a write held on its queue is then examined again (R25, R29). -/
def Obligations.QueueWriteActsByItsTable : Prop :=
  ∀ (s : State) (c : Chan) (v : Byte), Listening s → s.ctl.mode = .run →
    let answers (t : State) : Prop := exec (.queueWrite [BitVec.ofNat 8 c.val, v]) s = .next t
    let appends (k : EntryKind) (o : Byte) : Prop :=
      ((s.chan c).queue.length < 8 →
        answers (respond .ok [] (s.setChan c { s.chan c with
          queue := (s.chan c).queue ++ [{ kind := k, operand := o, origin := .mgmt }] }))) ∧
      (8 ≤ (s.chan c).queue.length → answers (respond .full [] (recordChannel .queueFull c v s)))
    ((s.chan c).desc = none →
      answers (respond .notConfigured [] (recordChannel .blockedWrite c v s))) ∧
    ((s.chan c).desc.isSome = true → (s.chan c).state = .fault →
      answers (respond .blocked [] (recordChannel .blockedWrite c v s))) ∧
    ∀ d, (s.chan c).desc = some d → (s.chan c).state ≠ .fault →
      (d.kind.holdPart.isSome = true →
        ((∃ e, (s.chan c).queue.getLast? = some e ∧ e.operand = v) ∨
          ((s.chan c).queue = [] ∧ (s.chan c).intended = some v) → answers (respond .ok [] s)) ∧
        ((∀ e, (s.chan c).queue.getLast? = some e → e.operand ≠ v) →
          ((s.chan c).queue = [] → (s.chan c).intended ≠ some v) → appends .set v)) ∧
      (d.kind.trainPart.isSome = true →
        (0x01 ≤ v.toNat ∧ v.toNat ≤ 0x3F → appends .train v) ∧
        (0x81 ≤ v.toNat ∧ v.toNat ≤ 0x8F → appends .pause (BitVec.ofNat 8 (v.toNat - 0x80))) ∧
        ((0x40 ≤ v.toNat ∧ v.toNat ≤ 0x80) ∨ 0x90 ≤ v.toNat →
          answers (respond .badField [2] (recordChannel .badData c v s))) ∧
        (v = 0x00 → answers (respond .ok [] (arbitrate (reexamine c (abortTrain c d s))))))

/-- PURGE empties the queue and records QUEUE_PURGED with the number removed; the channel is otherwise as it
was (R31). A write held on that queue, of either kind, is then examined against the empty queue and its cycle
ends (R29). -/
def Obligations.PurgeEmptiesTheQueue : Prop :=
  ∀ (s : State) (c : Chan), Listening s → s.ctl.mode = .run →
    let purged : State :=
      recordChannel .queuePurged c (BitVec.ofNat 8 (s.chan c).queue.length)
        (s.setChan c { s.chan c with queue := [] })
    let answers (t : State) : Prop := exec (.purge [BitVec.ofNat 8 c.val]) s = .next t
    ((s.chan c).desc = none → answers (respond .notConfigured [] s)) ∧
    ((s.chan c).desc.isSome = true → answers (respond .ok [] (reexamine c purged))) ∧
    ((s.chan c).desc.isSome = true →
      s.port.held = none ∨ (∃ h, s.port.held = some h ∧ h.channel ≠ c) →
      answers (respond .ok [] purged)) ∧
    ∀ d h, (s.chan c).desc = some d → s.port.state = .stalled → s.port.held = some h → h.channel = c →
      let ended (queue : List Entry) : Prop :=
        answers (respond .ok []
          { purged.setChan c { s.chan c with queue := queue } with
            port := endedPort s.port .normal none })
      (d.kind.holdPart.isSome = true →
        ((s.chan c).intended = some h.data → ended []) ∧
        ((s.chan c).intended ≠ some h.data →
          ended [{ kind := .set, operand := h.data, origin := .host }])) ∧
      (d.kind.trainPart.isSome = true →
        (0x01 ≤ h.data.toNat ∧ h.data.toNat ≤ 0x3F →
          ended [{ kind := .train, operand := h.data, origin := .host }]) ∧
        (0x81 ≤ h.data.toNat ∧ h.data.toNat ≤ 0x8F →
          ended [{ kind := .pause, operand := BitVec.ofNat 8 (h.data.toNat - 0x80), origin := .host }]))

/-- A pass-through arrival: the port waits with HWAIT# and the arbiter makes its choice; the decode is kept with
the cycle (R110, R112). An invalid cycle ends at once with HERR# (R108). A cycle that arrives while a reset
holds the part is answered at once, with FFh for a read and HERR# released, and not decoded (R125); that a
cycle with both strobes is among these is the model's deduction (notes/assumptions/11.md). When the host ends
its strobes the port is IDLE again from ENDING; a cycle not yet answered goes on, and the host's going is
remembered in a field of the model's own (R108, R124, notes/assumptions/9.md). -/
def Obligations.HostCyclesArriveAndEnd : Prop :=
  (∀ (s : State) (a : Addr), CycleCanArrive s →
     (s.governed a = none → ∀ data : Option Byte,
       exec (.passThroughArrival a data) s = .next (arbitrate
         { s with
           port :=
             { state := .passWait
               cycle := some
                 { kind := if data = none then .read else .write, address := a, data := data
                   decode := some
                     (if data ≠ none ∧ a = s.ctl.heartbeatAddress then .passHeartbeat else .pass)
                   ending := none, answer := none }
               stallTimer := none, held := none, released := false } })) ∧
     exec (.invalidCycle a) s =
       .next { s with port := answeredPort .invalid a none none .error none }) ∧
  (∀ (s : State) (kind : CycleKind) (a : Addr) (v : Byte), s.pins.clkRunning = true →
     s.heldInReset = true → s.port.state = .idle → ∃ t,
       exec (.hostCycleInReset kind a v) s = .next t ∧
       t = { s with
         port := answeredPort kind a (if kind = .write then some v else none) none .normal
           (if kind = .read then some 0xFF else none) } ∧
       t.hwait = false ∧ t.herr = false ∧ t.hd = (if kind = .read then some 0xFF else none)) ∧
  ∀ s : State, s.pins.clkRunning = true →
    (s.port.state = .ending → exec .hostCycleEnd s = .next { s with port := HostPort.idle }) ∧
    (s.port.state = .passWait ∨ s.port.state = .passOn ∨ s.port.state = .stalled →
      exec .hostCycleEnd s = .next { s with port := { s.port with released := true } })

/-- A pass-through cycle ends by completion: the answer, the free bus, the heartbeat restarted by a completed
heartbeat write in RUN alone, and the arbiter's choice (R112, R114, R151); or by timeout: HERR# with FFh for
a read, PASS_TIMEOUT with the address, no heartbeat report (R113). A SET_CHANNEL held back behind it is
accepted in the same event (R11). -/
def Obligations.PassThroughCycleEnds : Prop :=
  (∀ (s : State) (k : HostCycle) (dd : Byte), s.live = true → s.down.bus = .pass →
     s.port.state = .passOn → s.port.cycle = some k →
     let u : State :=
       { s with
         port := endedPort s.port .normal (if k.kind = .read then some dd else none)
         down := freedBus s.down
         ctl :=
           if k.decode = some .passHeartbeat ∧ s.ctl.mode = .run ∧ s.ctl.heartbeat ≠ none then
             { s.ctl with
               heartbeat :=
                 if s.ctl.heartbeatTimeout = 0 then none
                 else some (s.ctl.heartbeatTimeout.toNat + 1) }
           else s.ctl }
     (s.mgmt.pendingSet = none → exec (.passThroughCompletion dd) s = .next (arbitrate u)) ∧
     (s.mgmt.pendingSet ≠ none →
       exec (.passThroughCompletion dd) s = exec .heldSetChannelAccept u)) ∧
  ∀ (s : State) (k : HostCycle), s.live = true → s.down.bus = .pass → s.port.state = .passOn →
    s.port.cycle = some k →
    let u : State :=
      { record .passTimeout none none (some k.address) none s with
        port := endedPort s.port .error (if k.kind = .read then some 0xFF else none)
        down := freedBus s.down }
    (s.mgmt.pendingSet = none → exec .passTimeout s = .next (arbitrate u)) ∧
    (s.mgmt.pendingSet ≠ none → exec .passTimeout s = exec .heldSetChannelAccept u)

/-- The stall limit runs out: the write is dropped with STALL_TIMEOUT and the cycle ends with HERR#, the queue and
the channel as they were (R121). Or the queue has room: the held write is examined again and its cycle ends
normally; a HOLD write is absorbed or appended, a count or a pause of a TRAIN channel appended, with origin
HOST (R29, R120). With no write held on a channel's queue, or no room in it, the re-examination does
nothing. -/
def Obligations.StallEndsByItsLimitOrAFreeSlot : Prop :=
  (∀ (s : State) (h : HeldWrite), s.live = true → s.port.state = .stalled →
     s.port.stallTimer.isSome = true → s.port.held = some h →
     exec .stallTimeout s = .next
       { recordChannel .stallTimeout h.channel h.data s with port := endedPort s.port .error none }) ∧
  (∀ (s : State) (h : HeldWrite), s.live = true → s.port.state = .stalled → s.port.held = some h →
     exec .stallReexamine s = .next (arbitrate (reexamine h.channel s))) ∧
  ∀ (s : State) (c : Chan),
    (s.port.state ≠ .stalled ∨ (∀ h, s.port.held = some h → h.channel ≠ c) ∨
        8 ≤ (s.chan c).queue.length ∨ (s.chan c).desc = none →
      reexamine c s = s) ∧
    ∀ (h : HeldWrite) (d : Descriptor), s.port.state = .stalled → s.port.held = some h → h.channel = c →
      (s.chan c).desc = some d → (s.chan c).queue.length < 8 →
      let ended (u : State) : Prop := reexamine c s = { u with port := endedPort s.port .normal none }
      let appended (e : Entry) : Prop :=
        ended (s.setChan c { s.chan c with queue := (s.chan c).queue ++ [e] })
      (d.kind.holdPart.isSome = true →
        ((∃ e, (s.chan c).queue.getLast? = some e ∧ e.operand = h.data) ∨
          ((s.chan c).queue = [] ∧ (s.chan c).intended = some h.data) → ended s) ∧
        ((∀ e, (s.chan c).queue.getLast? = some e → e.operand ≠ h.data) →
          ((s.chan c).queue = [] → (s.chan c).intended ≠ some h.data) →
          appended { kind := .set, operand := h.data, origin := .host })) ∧
      (d.kind.trainPart.isSome = true →
        (0x01 ≤ h.data.toNat ∧ h.data.toNat ≤ 0x3F →
          appended { kind := .train, operand := h.data, origin := .host }) ∧
        (0x81 ≤ h.data.toNat ∧ h.data.toNat ≤ 0x8F →
          appended
            { kind := .pause, operand := BitVec.ofNat 8 (h.data.toNat - 0x80), origin := .host }))

/-! ### The drive engine -/

/-- A drive write completes, in every mode. Attached, it sets the driven value and is reported to the
comparison; as the latest it starts the timer its channel's state waits for, and overtaken it starts
nothing (R45, R64, R101). Detached it only frees the bus (R95). Then the transition mark is tested, the end of
a transition reported, and a write held on a queue that lost its head is examined again (R29, R103, R142). -/
def Obligations.DriveCompletionActsByTheState : Prop :=
  ∀ (s : State) (f : InFlight), s.live = true → s.down.bus = .drive f →
    let c := f.channel
    let x := s.chan c
    let freed (y : Channel) : State := { s.setChan c y with down := freedBus s.down }
    let ended (w : State) : Prop :=
      ∃ t, Reported (markTested c w) t ∧ exec .driveCompletion s = .next (arbitrate t)
    let takesHead (w : State) : Prop :=
      s.ctl.mode = .run → x.transitionMark = false →
        exec .driveCompletion s = exec (.holdHeadTake c) w
    (f.attached = false → ended (freed x)) ∧
    ∀ d, f.attached = true → x.desc = some d →
      let y : Channel := { x with driven := some f.value, cmp := comparedAt d f.value x }
      (x.slot ≠ none → ended (freed y)) ∧
      (∀ p, x.slot = none → d.kind = .hold p →
        (x.state = .holding → x.minHold = none →
          let z : Channel := { y with maxHold := fullTimer p.maxHold.toNat }
          let held : State := freed { z with state := .held }
          (p.minHold ≠ 0 → ended (freed { z with minHold := some (p.minHold.toNat + 1) })) ∧
          (p.minHold = 0 → x.queue = [] → ended (reexamine c held)) ∧
          (p.minHold = 0 → x.queue ≠ [] → takesHead held)) ∧
        (x.state = .recovering → x.recovery = none →
          let v : State := tokenGivenUp c d (freed y)
          let rested : State := v.setChan c { v.chan c with state := .resting, target := some d.rest }
          (d.gap ≠ 0 → ended (freed { y with recovery := some (d.gap.toNat + 1) })) ∧
          (d.gap = 0 → x.queue = [] → ended (reexamine c rested)) ∧
          (d.gap = 0 → x.queue ≠ [] → takesHead rested)) ∧
        (¬ (x.state = .holding ∧ x.minHold = none) → ¬ (x.state = .recovering ∧ x.recovery = none) →
          ended (freed y))) ∧
      ∀ p, x.slot = none → d.kind = .train p →
        (x.state = .mark → x.markTimer = none →
          ended (freed { y with markTimer := fullTimer p.markTime.toNat })) ∧
        (x.state = .space → x.spaceTimer = none →
          ended (freed { y with spaceTimer := fullTimer p.spaceTime.toNat })) ∧
        (x.state = .recovering → x.recovery = none →
          ended (freed { y with recovery := fullTimer d.gap.toNat })) ∧
        (¬ (x.state = .mark ∧ x.markTimer = none) → ¬ (x.state = .space ∧ x.spaceTimer = none) →
          ¬ (x.state = .recovering ∧ x.recovery = none) → ended (freed y))

/-- In a transition mode a completed drive clears its channel's mark when the slot is empty; while a mark is
yes the mode stays, and with the last mark gone the transition completes in the same event (R103, R142). -/
def Obligations.LastDriveEndCompletesTheTransition : Prop :=
  ∀ (s : State) (f : InFlight) (d : Descriptor), s.live = true → s.down.bus = .drive f →
    f.attached = true → (s.chan f.channel).desc = some d →
    (s.chan f.channel).state = .safed ∨ (s.chan f.channel).state = .fault →
    s.ctl.mode.isTransition = true →
    let c := f.channel
    let x := s.chan c
    let u : State :=
      { s.setChan c { x with
          driven := some f.value, cmp := comparedAt d f.value x
          transitionMark := if x.slot = none then false else x.transitionMark } with
        down := freedBus s.down }
    ((∃ k : Chan, (u.chan k).transitionMark = true) →
      exec .driveCompletion s = .next (arbitrate u)) ∧
    ((∀ k : Chan, (u.chan k).transitionMark = false) →
      ∃ t, exec .driveCompletion s = .next (arbitrate t) ∧
        (s.ctl.mode = .enteringRun → exec .enteringRunComplete u = .next t ∧ t.ctl.mode = .run) ∧
        (s.ctl.mode = .enteringSafe → exec .enteringSafeComplete u = .next t ∧ t.ctl.mode = .safe) ∧
        (s.ctl.mode = .enteringConfig →
          exec .enteringConfigComplete u = .next t ∧ t.ctl.mode = .config))

/-- A drive write times out, in every mode: DRIVE_TIMEOUT is recorded and the bus freed; attached, the driven
value is absent and the comparison UNKNOWN, and outside CONFIG and ENTERING_CONFIG a channel not in FAULT
enters FAULT with its safe drive as the one retry, giving up its token to the head waiter, its place and a
write held on its queue (R82, R86, R95, R104, R105, R122, R133, R136). Then the transition mark is tested and
the end of a transition reported, its MODE_CHANGED after DRIVE_TIMEOUT (R103, R142, R163). -/
def Obligations.DriveTimeoutActsByModeAndState : Prop :=
  ∀ (s : State) (f : InFlight), s.live = true → s.down.bus = .drive f →
    let c := f.channel
    let freed (u : State) : State :=
      { recordChannel .driveTimeout c f.value u with down := freedBus s.down }
    let ended (w : State) : Prop :=
      ∃ t, Reported (markTested c w) t ∧ exec .driveTimeout s = .next (arbitrate t)
    (f.attached = false → ended (freed s)) ∧
    ∀ d, f.attached = true → (s.chan c).desc = some d →
      let lost : State :=
        freed (s.setChan c { s.chan c with driven := none, cmp := forgotten d (s.chan c) })
      (s.ctl.mode = .config ∨ s.ctl.mode = .enteringConfig ∨ (s.chan c).state = .fault → ended lost) ∧
      (s.ctl.mode ≠ .config → s.ctl.mode ≠ .enteringConfig → (s.chan c).state ≠ .fault →
        ended (stallGivenUp c (waiterRemoved c d (tokenGivenUp c d (faulted c d .driveTimeout lost)))))

/-! ### The exclusion groups -/

/-- A token given up serves the head waiter: it holds the token, leaves the list and enters HOLDING at its
requested value, or MARK with its requested count, its drive requested; with no waiter the token is free (R43,
R62, R82). GRANT does this, and so does the end of a recovery, after which the releasing channel rests and
takes its own head, to join the tail of the list again (R53, R68). -/
def Obligations.GrantServesTheHeadWaiter : Prop :=
  (∀ (s : State) (g : Group), (s.group g).waiters = [] →
     passToken g s = s.setGroup g { holder := none, waiters := [] }) ∧
  ∀ (s : State) (g : Group) (w : Chan) (rest : List Chan) (d : Descriptor) (q : Byte),
    (s.group g).waiters = w :: rest → (s.chan w).desc = some d → (s.chan w).requested = some q →
    let t : State := s.setGroup g { holder := some w, waiters := rest }
    let served (u : State) : Prop :=
      passToken g s = u ∧
      (s.live = true → (s.group g).holder = none → exec (.grant g) s = .next (arbitrate u)) ∧
      ∀ (c : Chan) (e : Descriptor), s.live = true → (s.group g).holder = some c → c ≠ w →
        s.ctl.mode = .run → (s.chan c).desc = some e → e.group = some g →
        (s.chan c).state = .recovering → (s.chan c).recovery = some 0 →
        (e.kind.holdPart.isSome = true →
          let v : State := u.setChan c
            { s.chan c with state := .resting, target := some e.rest, recovery := none }
          ((s.chan c).queue = [] →
            exec (.holdRecoveryEnd c) s = .next (arbitrate (reexamine c v))) ∧
          ((s.chan c).queue ≠ [] → exec (.holdRecoveryEnd c) s = exec (.holdHeadTake c) v)) ∧
        (e.kind.trainPart.isSome = true →
          let v : State := u.setChan c { s.chan c with state := .resting, recovery := none }
          ((s.chan c).queue = [] → exec (.trainRecoveryEnd c) s = .next (arbitrate v)) ∧
          ((s.chan c).queue ≠ [] → exec (.trainRecoveryEnd c) s = exec (.trainHeadTake c) v))
    (d.kind.holdPart.isSome = true →
      served (t.setChan w { s.chan w with
        state := .holding, target := some q, requested := none, minHold := none, maxHold := none
        slot := some q })) ∧
    ∀ p, d.kind = .train p →
      served (t.setChan w { s.chan w with
        state := .mark, target := some p.markValue, requested := none, marks := q.toNat
        trainCount := q.toNat, abortPending := false, markTimer := none, slot := some p.markValue })

/-! ### HOLD channels -/

/-- HOLD_HEAD_TAKE on a head SET(v), by the state: removed with no effect when v is the intended value, the
next head then taken; from RESTING an activation, at once or into the waiter list; from WAITING a withdrawal
or a new requested value; from HELD a release or a retarget (R38 to R42, R48, R49, R80). A write held on the
queue is then examined again against what the heads have left (R29, R120). -/
def Obligations.HoldHeadIsTakenByTheState : Prop :=
  ∀ (s : State) (c : Chan) (d : Descriptor) (e : Entry) (rest : List Entry), s.live = true →
    s.ctl.mode = .run → (s.chan c).desc = some d → d.kind.holdPart.isSome = true →
    (s.chan c).queue = e :: rest →
    let v := e.operand
    let x : Channel := { s.chan c with queue := rest }
    let taken (u : State) : Prop := exec (.holdHeadTake c) s = .next (arbitrate (reexamine c u))
    let goesOn (u : State) : Prop :=
      (rest = [] → taken u) ∧ (rest ≠ [] → exec (.holdHeadTake c) s = exec (.holdHeadTake c) u)
    let active : Channel :=
      { x with
        state := .holding, target := some v, requested := none, minHold := none, maxHold := none
        slot := some v }
    (x.state = .resting ∨ x.state = .waiting ∨ x.state = .held → x.intended = some v →
      goesOn (s.setChan c x)) ∧
    (x.state = .resting → x.intended ≠ some v →
      (d.group = none → taken (s.setChan c active)) ∧
      ∀ g, d.group = some g →
        ((s.group g).holder = none →
          taken ((s.setChan c active).setGroup g { s.group g with holder := some c })) ∧
        ((s.group g).holder ≠ none →
          goesOn ((s.setChan c { x with state := .waiting, requested := some v }).setGroup g
            { s.group g with waiters := (s.group g).waiters ++ [c] }))) ∧
    (x.state = .waiting → x.requested ≠ some v →
      (v = d.rest →
        goesOn (waiterRemoved c d (s.setChan c { x with state := .resting, requested := none }))) ∧
      (v ≠ d.rest → goesOn (s.setChan c { x with requested := some v }))) ∧
    (x.state = .held → x.target ≠ some v →
      (v = d.rest →
        taken (s.setChan c
          { x with
            state := .recovering, target := some d.rest, minHold := none, maxHold := none
            recovery := none, slot := some d.rest })) ∧
      (v ≠ d.rest → taken (s.setChan c active)))

/-- The timers of a HOLD channel: min-hold expiry makes it HELD and takes its head; max-hold expiry in HELD
releases it by force with HOLD_EXPIRED, and one of the same tick comes at once after a min-hold expiry whose
heads have left the channel HELD (R51); the end of a recovery gives the token back, makes it RESTING and takes
its head (R46, R50, R53, R82). -/
def Obligations.HoldTimersExpire : Prop :=
  ∀ (s : State) (c : Chan) (d : Descriptor), s.live = true → s.ctl.mode = .run →
    (s.chan c).desc = some d → d.kind.holdPart.isSome = true →
    let x := s.chan c
    (x.state = .holding → x.minHold = some 0 →
      let u : State := s.setChan c { x with state := .held, minHold := none }
      (x.queue = [] → x.maxHold ≠ some 0 →
        exec (.minHoldExpiry c) s = .next (arbitrate (reexamine c u))) ∧
      (x.queue = [] → x.maxHold = some 0 →
        exec (.minHoldExpiry c) s = exec (.maxHoldExpiry c) (reexamine c u)) ∧
      ∀ e rest, x.queue = e :: rest →
        (x.target = some e.operand →
          exec (.minHoldExpiry c) s = exec (.minHoldExpiry c) (s.setChan c { x with queue := rest })) ∧
        (x.target ≠ some e.operand →
          exec (.minHoldExpiry c) s = exec (.holdHeadTake c) u)) ∧
    (x.state = .held → x.maxHold = some 0 → ∀ v, x.target = some v →
      exec (.maxHoldExpiry c) s = .next (arbitrate (recordChannel .holdExpired c v (s.setChan c
        { x with
          state := .recovering, target := some d.rest, minHold := none, maxHold := none
          recovery := none, slot := some d.rest })))) ∧
    (x.state = .recovering → x.recovery = some 0 →
      let v : State := tokenGivenUp c d (s.setChan c { x with recovery := none })
      let rested : State := v.setChan c { v.chan c with state := .resting, target := some d.rest }
      (x.queue = [] → exec (.holdRecoveryEnd c) s = .next (arbitrate (reexamine c rested))) ∧
      (x.queue ≠ [] → exec (.holdRecoveryEnd c) s = exec (.holdHeadTake c) rested))

/-! ### TRAIN channels -/

/-- TRAIN_HEAD_TAKE takes the one head of a RESTING channel: a count starts a train, at once or into the
waiter list, and a pause starts its timer (R59 to R61, R80). A write held on the queue is then examined again
(R29, R120). -/
def Obligations.TrainHeadIsTakenAtRest : Prop :=
  ∀ (s : State) (c : Chan) (d : Descriptor) (p : TrainPart) (e : Entry) (rest : List Entry),
    s.live = true → s.ctl.mode = .run → (s.chan c).desc = some d →
    d.kind = .train p → (s.chan c).queue = e :: rest → (s.chan c).state = .resting →
    let n := e.operand
    let x : Channel := { s.chan c with queue := rest }
    let taken (u : State) : Prop := exec (.trainHeadTake c) s = .next (arbitrate (reexamine c u))
    let marking : Channel :=
      { x with
        state := .mark, target := some p.markValue, requested := none, marks := n.toNat
        trainCount := n.toNat, abortPending := false, markTimer := none, slot := some p.markValue }
    (e.kind = .pause →
      taken (s.setChan c
        { x with state := .pausing, pauseTimer := fullTimer (n.toNat * p.pauseUnit.toNat) })) ∧
    (e.kind = .train →
      (d.group = none → taken (s.setChan c marking)) ∧
      ∀ g, d.group = some g →
        ((s.group g).holder = none →
          taken ((s.setChan c marking).setGroup g { s.group g with holder := some c })) ∧
        ((s.group g).holder ≠ none →
          taken ((s.setChan c { x with state := .waiting, requested := some n }).setGroup g
            { s.group g with waiters := (s.group g).waiters ++ [c] })))

/-- The timers of a TRAIN channel: a mark ends in SPACE, or in RECOVERING after the last mark with
TRAIN_DONE, or after an abort without it; a space ends in MARK with the marks and the count kept; a pause and
a recovery end in RESTING, the token given back at a recovery end and the head then taken (R61, R65, R66, R68,
R82). -/
def Obligations.TrainTimersExpire : Prop :=
  ∀ (s : State) (c : Chan) (d : Descriptor) (p : TrainPart), s.live = true → s.ctl.mode = .run →
    (s.chan c).desc = some d → d.kind = .train p →
    let x := s.chan c
    (x.state = .mark → x.markTimer = some 0 →
      let y : Channel :=
        { x with
          state := .recovering, target := some d.rest, marks := 0, trainCount := 0
          abortPending := false, recovery := none, markTimer := none, slot := some d.rest }
      (x.abortPending = true → exec (.markExpiry c) s = .next (arbitrate (s.setChan c y))) ∧
      (x.abortPending = false → x.marks ≤ 1 →
        exec (.markExpiry c) s = .next (arbitrate
          (recordChannel .trainDone c (BitVec.ofNat 8 x.trainCount) (s.setChan c y)))) ∧
      (x.abortPending = false → 2 ≤ x.marks →
        exec (.markExpiry c) s = .next (arbitrate (s.setChan c
          { x with
            state := .space, target := some d.rest, marks := x.marks - 1, spaceTimer := none
            markTimer := none, slot := some d.rest })))) ∧
    (x.state = .space → x.spaceTimer = some 0 →
      exec (.spaceExpiry c) s = .next (arbitrate (s.setChan c
        { x with
          state := .mark, target := some p.markValue, abortPending := false, spaceTimer := none
          markTimer := none, slot := some p.markValue }))) ∧
    (x.state = .pausing → x.pauseTimer = some 0 →
      let u : State := s.setChan c { x with state := .resting, pauseTimer := none }
      (x.queue = [] → exec (.pauseExpiry c) s = .next (arbitrate u)) ∧
      (x.queue ≠ [] → exec (.pauseExpiry c) s = exec (.trainHeadTake c) u)) ∧
    (x.state = .recovering → x.recovery = some 0 →
      let v : State := tokenGivenUp c d (s.setChan c { x with recovery := none })
      let rested : State := v.setChan c { v.chan c with state := .resting }
      (x.queue = [] → exec (.trainRecoveryEnd c) s = .next (arbitrate rested)) ∧
      (x.queue ≠ [] → exec (.trainRecoveryEnd c) s = exec (.trainHeadTake c) rested))

/-! ### Feedback supervision -/

/-- A credited completion at the comparison, by its phase and the level it expects of SENSEn (R127, R128). -/
def Obligations.CompletionActsOnTheComparison : Prop :=
  ∀ (f : FeedbackPart) (v : Byte) (k : Comparison),
    let level : Bool := if f.invert then !v.getLsbD f.senseBit.val else v.getLsbD f.senseBit.val
    let settling : Comparison :=
      { phase := .settling, expected := some level, settle := fullTimer f.settleTime.toNat
        filter := none }
    (k.phase = .unknown → k.completion f v = settling) ∧
    (k.phase ≠ .unknown → k.expected ≠ some level → k.completion f v = settling) ∧
    (k.phase = .settling ∨ k.phase = .agree ∨ k.phase = .filtering → k.expected = some level →
      k.completion f v = k) ∧
    (k.phase = .confirmed → k.expected = some level →
      k.completion f v =
        { phase := .filtering, expected := some level, settle := none, filter := some 3 })

/-- The settle time ends in AGREE or FILTERING by the level SENSEn shows; a change of SENSEn starts the
filter, stops it, or ends a confirmed mismatch, by the phase; it acts on no other state (R129, R130). For a
channel that is unconfigured or not supervised it changes the pin alone (R5, R126), and so does a command to
the level the pin already shows. -/
def Obligations.SettleAndSenseMoveTheComparison : Prop :=
  (∀ (s : State) (c : Chan) (high : Bool),
    (s.chan c).desc.bind (·.feedback) = none ∨ s.pins.sense[c.val] = high ∨ s.live = false →
    exec (.senseChange c high) s =
      .next { s with pins := { s.pins with sense := s.pins.sense.set c.val high } }) ∧
  ∀ (s : State) (c : Chan) (d : Descriptor) (f : FeedbackPart) (k : Comparison), s.live = true →
    (s.chan c).desc = some d → d.feedback = some f → (s.chan c).cmp = some k →
    let agreed : Comparison := { phase := .agree, expected := k.expected, settle := none, filter := none }
    let filtering : Comparison :=
      { phase := .filtering, expected := k.expected, settle := none, filter := some 3 }
    let compared (j : Comparison) : State := s.setChan c { s.chan c with cmp := some j }
    (k.phase = .settling → k.settle = some 0 →
      (k.expected = some (s.pins.sense[c.val]) →
        exec (.settleExpiry c) s = .next (compared agreed)) ∧
      (k.expected ≠ some (s.pins.sense[c.val]) →
        exec (.settleExpiry c) s = .next (compared filtering))) ∧
    ∀ high : Bool, s.pins.sense[c.val] ≠ high →
      let moved (j : Comparison) : Prop :=
        exec (.senseChange c high) s = .next
          { compared j with pins := { s.pins with sense := s.pins.sense.set c.val high } }
      (k.phase = .agree → k.expected ≠ some high → moved filtering) ∧
      (k.phase = .filtering ∨ k.phase = .confirmed → k.expected = some high → moved agreed) ∧
      (k.phase = .unknown ∨ k.phase = .settling → moved k)

/-- A difference that has lasted the filter time is confirmed: it faults a channel outside CONFIG and
ENTERING_CONFIG with FEEDBACK_FAULT, is reported alone in those, and for a channel in FAULT is reported once
as FEEDBACK_STUCK (R131 to R135). A channel that faults gives up its token to the head waiter, its place and a
write held on its queue (R82, R86, R122). -/
def Obligations.ConfirmedMismatchActsByModeAndState : Prop :=
  ∀ (s : State) (c : Chan) (d : Descriptor) (k : Comparison) (v : Byte), s.live = true →
    (s.chan c).desc = some d → d.feedback.isSome = true → (s.chan c).cmp = some k →
    k.phase = .filtering → k.filter = some 0 → (s.chan c).driven = some v →
    let u : State :=
      s.setChan c { s.chan c with cmp := some { k with phase := .confirmed, filter := none } }
    let confirmed (t : State) : Prop := exec (.filterExpiry c) s = .next (arbitrate t)
    ((s.chan c).state = .fault → (s.chan c).stuckReported = true → confirmed u) ∧
    ((s.chan c).state = .fault → (s.chan c).stuckReported = false →
      confirmed (record .feedbackStuck (some c) none none none
        (u.setChan c { u.chan c with stuckReported := true }))) ∧
    ((s.chan c).state ≠ .fault → s.ctl.mode = .config ∨ s.ctl.mode = .enteringConfig →
      confirmed (recordChannel .feedbackFault c v u)) ∧
    ((s.chan c).state ≠ .fault → s.ctl.mode ≠ .config → s.ctl.mode ≠ .enteringConfig →
      confirmed (stallGivenUp c (waiterRemoved c d (tokenGivenUp c d
        (faulted c d .feedback (recordChannel .feedbackFault c v u))))))

/-- CLEAR_FAULT: refused for a channel that is not configured or not in FAULT; in RUN the channel is RESTING
with its rest drive requested and its comparison UNKNOWN; in SAFE it is SAFED, no drive requested, and its
comparison settles for the driven value (R138, R139). -/
def Obligations.ClearFaultEndsTheFault : Prop :=
  ∀ (s : State) (c : Chan), Listening s → s.ctl.mode = .run ∨ s.ctl.mode = .safe →
    let x := s.chan c
    let answers (t : State) : Prop := exec (.clearFault [BitVec.ofNat 8 c.val]) s = .next t
    (x.desc = none → answers (respond .notConfigured [] s)) ∧
    (x.desc.isSome = true → x.state ≠ .fault → answers (respond .notFaulted [] s)) ∧
    ∀ d, x.desc = some d → x.state = .fault →
      (s.ctl.mode = .run →
        answers (respond .ok [] (arbitrate (s.setChan c
          { outOfCadence .resting d.rest x with
            queue := [], stuckReported := false, cmp := forgotten d x, slot := some d.rest })))) ∧
      (s.ctl.mode = .safe →
        let y : Channel := { outOfCadence .safed d.safe x with stuckReported := false }
        (d.feedback = none ∨ x.driven = none → answers (respond .ok [] (s.setChan c y))) ∧
        ∀ f v, d.feedback = some f → x.driven = some v →
          answers (respond .ok [] (s.setChan c
            { y with
              cmp := x.cmp.map fun _ =>
                { phase := .settling
                  expected := some
                    (if f.invert then !v.getLsbD f.senseBit.val else v.getLsbD f.senseBit.val)
                  settle := fullTimer f.settleTime.toNat, filter := none } })))
end

