-- ==== Sys2Proof/Laws/State.lean ====
section
/-! SUPPORT. One lemma for each field of each update of the state, so that no later proof unfolds a
record update, and the reading of a channel or a group after an update of another. -/

namespace Sys2Proof.Machine

/-! ### State.setChan -/

@[simp] theorem setChan_channels (s : State) (c : Chan) (x : Channel) :
    (s.setChan c x).channels = s.channels.set c.val x := rfl
@[simp] theorem setChan_groups (s : State) (c : Chan) (x : Channel) :
    (s.setChan c x).groups = s.groups := rfl
@[simp] theorem setChan_down (s : State) (c : Chan) (x : Channel) :
    (s.setChan c x).down = s.down := rfl
@[simp] theorem setChan_port (s : State) (c : Chan) (x : Channel) :
    (s.setChan c x).port = s.port := rfl
@[simp] theorem setChan_ctl (s : State) (c : Chan) (x : Channel) :
    (s.setChan c x).ctl = s.ctl := rfl
@[simp] theorem setChan_ev (s : State) (c : Chan) (x : Channel) :
    (s.setChan c x).ev = s.ev := rfl
@[simp] theorem setChan_mgmt (s : State) (c : Chan) (x : Channel) :
    (s.setChan c x).mgmt = s.mgmt := rfl
@[simp] theorem setChan_pins (s : State) (c : Chan) (x : Channel) :
    (s.setChan c x).pins = s.pins := rfl
@[simp] theorem setChan_pending (s : State) (c : Chan) (x : Channel) :
    (s.setChan c x).pending = s.pending := rfl
@[simp] theorem setChan_group (s : State) (c : Chan) (x : Channel) (g : Group) :
    (s.setChan c x).group g = s.group g := rfl

/-! ### State.setGroup -/

@[simp] theorem setGroup_channels (s : State) (g : Group) (x : GroupState) :
    (s.setGroup g x).channels = s.channels := rfl
@[simp] theorem setGroup_groups (s : State) (g : Group) (x : GroupState) :
    (s.setGroup g x).groups = s.groups.set g.val x := rfl
@[simp] theorem setGroup_down (s : State) (g : Group) (x : GroupState) :
    (s.setGroup g x).down = s.down := rfl
@[simp] theorem setGroup_port (s : State) (g : Group) (x : GroupState) :
    (s.setGroup g x).port = s.port := rfl
@[simp] theorem setGroup_ctl (s : State) (g : Group) (x : GroupState) :
    (s.setGroup g x).ctl = s.ctl := rfl
@[simp] theorem setGroup_ev (s : State) (g : Group) (x : GroupState) :
    (s.setGroup g x).ev = s.ev := rfl
@[simp] theorem setGroup_mgmt (s : State) (g : Group) (x : GroupState) :
    (s.setGroup g x).mgmt = s.mgmt := rfl
@[simp] theorem setGroup_pins (s : State) (g : Group) (x : GroupState) :
    (s.setGroup g x).pins = s.pins := rfl
@[simp] theorem setGroup_pending (s : State) (g : Group) (x : GroupState) :
    (s.setGroup g x).pending = s.pending := rfl
@[simp] theorem setGroup_chan (s : State) (g : Group) (x : GroupState) (j : Chan) :
    (s.setGroup g x).chan j = s.chan j := rfl

/-! ### modChan -/

@[simp] theorem modChan_channels (s : State) (c : Chan) (f : Channel → Channel) :
    (modChan c f s).channels = s.channels.set c.val (f (s.chan c)) := rfl
@[simp] theorem modChan_groups (s : State) (c : Chan) (f : Channel → Channel) :
    (modChan c f s).groups = s.groups := rfl
@[simp] theorem modChan_down (s : State) (c : Chan) (f : Channel → Channel) :
    (modChan c f s).down = s.down := rfl
@[simp] theorem modChan_port (s : State) (c : Chan) (f : Channel → Channel) :
    (modChan c f s).port = s.port := rfl
@[simp] theorem modChan_ctl (s : State) (c : Chan) (f : Channel → Channel) :
    (modChan c f s).ctl = s.ctl := rfl
@[simp] theorem modChan_ev (s : State) (c : Chan) (f : Channel → Channel) :
    (modChan c f s).ev = s.ev := rfl
@[simp] theorem modChan_mgmt (s : State) (c : Chan) (f : Channel → Channel) :
    (modChan c f s).mgmt = s.mgmt := rfl
@[simp] theorem modChan_pins (s : State) (c : Chan) (f : Channel → Channel) :
    (modChan c f s).pins = s.pins := rfl
@[simp] theorem modChan_pending (s : State) (c : Chan) (f : Channel → Channel) :
    (modChan c f s).pending = s.pending := rfl
@[simp] theorem modChan_group (s : State) (c : Chan) (f : Channel → Channel) (g : Group) :
    (modChan c f s).group g = s.group g := rfl

/-! ### mapChans -/

@[simp] theorem mapChans_channels (s : State) (f : Channel → Channel) :
    (mapChans f s).channels = Vector.ofFn (fun c => f (s.chan c)) := rfl
@[simp] theorem mapChans_groups (s : State) (f : Channel → Channel) :
    (mapChans f s).groups = s.groups := rfl
@[simp] theorem mapChans_down (s : State) (f : Channel → Channel) :
    (mapChans f s).down = s.down := rfl
@[simp] theorem mapChans_port (s : State) (f : Channel → Channel) :
    (mapChans f s).port = s.port := rfl
@[simp] theorem mapChans_ctl (s : State) (f : Channel → Channel) :
    (mapChans f s).ctl = s.ctl := rfl
@[simp] theorem mapChans_ev (s : State) (f : Channel → Channel) :
    (mapChans f s).ev = s.ev := rfl
@[simp] theorem mapChans_mgmt (s : State) (f : Channel → Channel) :
    (mapChans f s).mgmt = s.mgmt := rfl
@[simp] theorem mapChans_pins (s : State) (f : Channel → Channel) :
    (mapChans f s).pins = s.pins := rfl
@[simp] theorem mapChans_pending (s : State) (f : Channel → Channel) :
    (mapChans f s).pending = s.pending := rfl
@[simp] theorem mapChans_group (s : State) (f : Channel → Channel) (g : Group) :
    (mapChans f s).group g = s.group g := rfl

/-! ### requestDrive -/

@[simp] theorem requestDrive_channels (s : State) (c : Chan) (v : Byte) :
    (requestDrive c v s).channels = s.channels.set c.val { s.chan c with slot := some v } := rfl
@[simp] theorem requestDrive_groups (s : State) (c : Chan) (v : Byte) :
    (requestDrive c v s).groups = s.groups := rfl
@[simp] theorem requestDrive_down (s : State) (c : Chan) (v : Byte) :
    (requestDrive c v s).down = s.down := rfl
@[simp] theorem requestDrive_port (s : State) (c : Chan) (v : Byte) :
    (requestDrive c v s).port = s.port := rfl
@[simp] theorem requestDrive_ctl (s : State) (c : Chan) (v : Byte) :
    (requestDrive c v s).ctl = s.ctl := rfl
@[simp] theorem requestDrive_ev (s : State) (c : Chan) (v : Byte) :
    (requestDrive c v s).ev = s.ev := rfl
@[simp] theorem requestDrive_mgmt (s : State) (c : Chan) (v : Byte) :
    (requestDrive c v s).mgmt = s.mgmt := rfl
@[simp] theorem requestDrive_pins (s : State) (c : Chan) (v : Byte) :
    (requestDrive c v s).pins = s.pins := rfl
@[simp] theorem requestDrive_pending (s : State) (c : Chan) (v : Byte) :
    (requestDrive c v s).pending = s.pending := rfl
@[simp] theorem requestDrive_group (s : State) (c : Chan) (v : Byte) (g : Group) :
    (requestDrive c v s).group g = s.group g := rfl

/-! ### requestTransitionDrives -/

@[simp] theorem requestTransitionDrives_groups (s : State) (f : Descriptor → Byte) :
    (requestTransitionDrives f s).groups = s.groups := rfl
@[simp] theorem requestTransitionDrives_down (s : State) (f : Descriptor → Byte) :
    (requestTransitionDrives f s).down = s.down := rfl
@[simp] theorem requestTransitionDrives_port (s : State) (f : Descriptor → Byte) :
    (requestTransitionDrives f s).port = s.port := rfl
@[simp] theorem requestTransitionDrives_ctl (s : State) (f : Descriptor → Byte) :
    (requestTransitionDrives f s).ctl = s.ctl := rfl
@[simp] theorem requestTransitionDrives_ev (s : State) (f : Descriptor → Byte) :
    (requestTransitionDrives f s).ev = s.ev := rfl
@[simp] theorem requestTransitionDrives_mgmt (s : State) (f : Descriptor → Byte) :
    (requestTransitionDrives f s).mgmt = s.mgmt := rfl
@[simp] theorem requestTransitionDrives_pins (s : State) (f : Descriptor → Byte) :
    (requestTransitionDrives f s).pins = s.pins := rfl
@[simp] theorem requestTransitionDrives_pending (s : State) (f : Descriptor → Byte) :
    (requestTransitionDrives f s).pending = s.pending := rfl
@[simp] theorem requestTransitionDrives_group (s : State) (f : Descriptor → Byte) (g : Group) :
    (requestTransitionDrives f s).group g = s.group g := rfl

/-! ### record -/

@[simp] theorem record_channels (s : State) (k : EventKind) (c : Option Chan) (v : Option Byte) (a : Option Addr) (r : Option SafeCause) :
    (record k c v a r s).channels = s.channels := rfl
@[simp] theorem record_groups (s : State) (k : EventKind) (c : Option Chan) (v : Option Byte) (a : Option Addr) (r : Option SafeCause) :
    (record k c v a r s).groups = s.groups := rfl
@[simp] theorem record_down (s : State) (k : EventKind) (c : Option Chan) (v : Option Byte) (a : Option Addr) (r : Option SafeCause) :
    (record k c v a r s).down = s.down := rfl
@[simp] theorem record_port (s : State) (k : EventKind) (c : Option Chan) (v : Option Byte) (a : Option Addr) (r : Option SafeCause) :
    (record k c v a r s).port = s.port := rfl
@[simp] theorem record_ctl (s : State) (k : EventKind) (c : Option Chan) (v : Option Byte) (a : Option Addr) (r : Option SafeCause) :
    (record k c v a r s).ctl = s.ctl := rfl
@[simp] theorem record_mgmt (s : State) (k : EventKind) (c : Option Chan) (v : Option Byte) (a : Option Addr) (r : Option SafeCause) :
    (record k c v a r s).mgmt = s.mgmt := rfl
@[simp] theorem record_pins (s : State) (k : EventKind) (c : Option Chan) (v : Option Byte) (a : Option Addr) (r : Option SafeCause) :
    (record k c v a r s).pins = s.pins := rfl
@[simp] theorem record_pending (s : State) (k : EventKind) (c : Option Chan) (v : Option Byte) (a : Option Addr) (r : Option SafeCause) :
    (record k c v a r s).pending = s.pending := rfl
@[simp] theorem record_chan (s : State) (k : EventKind) (c : Option Chan) (v : Option Byte) (a : Option Addr) (r : Option SafeCause) (j : Chan) :
    (record k c v a r s).chan j = s.chan j := rfl
@[simp] theorem record_group (s : State) (k : EventKind) (c : Option Chan) (v : Option Byte) (a : Option Addr) (r : Option SafeCause) (g : Group) :
    (record k c v a r s).group g = s.group g := rfl

/-! ### recordChannel -/

@[simp] theorem recordChannel_channels (s : State) (k : EventKind) (c : Chan) (v : Byte) :
    (recordChannel k c v s).channels = s.channels := rfl
@[simp] theorem recordChannel_groups (s : State) (k : EventKind) (c : Chan) (v : Byte) :
    (recordChannel k c v s).groups = s.groups := rfl
@[simp] theorem recordChannel_down (s : State) (k : EventKind) (c : Chan) (v : Byte) :
    (recordChannel k c v s).down = s.down := rfl
@[simp] theorem recordChannel_port (s : State) (k : EventKind) (c : Chan) (v : Byte) :
    (recordChannel k c v s).port = s.port := rfl
@[simp] theorem recordChannel_ctl (s : State) (k : EventKind) (c : Chan) (v : Byte) :
    (recordChannel k c v s).ctl = s.ctl := rfl
@[simp] theorem recordChannel_mgmt (s : State) (k : EventKind) (c : Chan) (v : Byte) :
    (recordChannel k c v s).mgmt = s.mgmt := rfl
@[simp] theorem recordChannel_pins (s : State) (k : EventKind) (c : Chan) (v : Byte) :
    (recordChannel k c v s).pins = s.pins := rfl
@[simp] theorem recordChannel_pending (s : State) (k : EventKind) (c : Chan) (v : Byte) :
    (recordChannel k c v s).pending = s.pending := rfl
@[simp] theorem recordChannel_chan (s : State) (k : EventKind) (c : Chan) (v : Byte) (j : Chan) :
    (recordChannel k c v s).chan j = s.chan j := rfl
@[simp] theorem recordChannel_group (s : State) (k : EventKind) (c : Chan) (v : Byte) (g : Group) :
    (recordChannel k c v s).group g = s.group g := rfl

/-! ### recordModeChanged -/

@[simp] theorem recordModeChanged_channels (s : State) :
    (recordModeChanged s).channels = s.channels := rfl
@[simp] theorem recordModeChanged_groups (s : State) :
    (recordModeChanged s).groups = s.groups := rfl
@[simp] theorem recordModeChanged_down (s : State) :
    (recordModeChanged s).down = s.down := rfl
@[simp] theorem recordModeChanged_port (s : State) :
    (recordModeChanged s).port = s.port := rfl
@[simp] theorem recordModeChanged_ctl (s : State) :
    (recordModeChanged s).ctl = s.ctl := rfl
@[simp] theorem recordModeChanged_mgmt (s : State) :
    (recordModeChanged s).mgmt = s.mgmt := rfl
@[simp] theorem recordModeChanged_pins (s : State) :
    (recordModeChanged s).pins = s.pins := rfl
@[simp] theorem recordModeChanged_pending (s : State) :
    (recordModeChanged s).pending = s.pending := rfl
@[simp] theorem recordModeChanged_chan (s : State) (j : Chan) :
    (recordModeChanged s).chan j = s.chan j := rfl
@[simp] theorem recordModeChanged_group (s : State) (g : Group) :
    (recordModeChanged s).group g = s.group g := rfl

/-! ### clearFlags -/

@[simp] theorem clearFlags_channels (s : State) :
    (clearFlags s).channels = s.channels := rfl
@[simp] theorem clearFlags_groups (s : State) :
    (clearFlags s).groups = s.groups := rfl
@[simp] theorem clearFlags_down (s : State) :
    (clearFlags s).down = s.down := rfl
@[simp] theorem clearFlags_port (s : State) :
    (clearFlags s).port = s.port := rfl
@[simp] theorem clearFlags_ctl (s : State) :
    (clearFlags s).ctl = s.ctl := rfl
@[simp] theorem clearFlags_ev (s : State) :
    (clearFlags s).ev = { s.ev with flags := 0, mint := mintLevel 0 s.ev.enables } := rfl
@[simp] theorem clearFlags_mgmt (s : State) :
    (clearFlags s).mgmt = s.mgmt := rfl
@[simp] theorem clearFlags_pins (s : State) :
    (clearFlags s).pins = s.pins := rfl
@[simp] theorem clearFlags_pending (s : State) :
    (clearFlags s).pending = s.pending := rfl
@[simp] theorem clearFlags_chan (s : State) (j : Chan) :
    (clearFlags s).chan j = s.chan j := rfl
@[simp] theorem clearFlags_group (s : State) (g : Group) :
    (clearFlags s).group g = s.group g := rfl

/-! ### writeEnables -/

@[simp] theorem writeEnables_channels (s : State) (e : BitVec 15) :
    (writeEnables e s).channels = s.channels := rfl
@[simp] theorem writeEnables_groups (s : State) (e : BitVec 15) :
    (writeEnables e s).groups = s.groups := rfl
@[simp] theorem writeEnables_down (s : State) (e : BitVec 15) :
    (writeEnables e s).down = s.down := rfl
@[simp] theorem writeEnables_port (s : State) (e : BitVec 15) :
    (writeEnables e s).port = s.port := rfl
@[simp] theorem writeEnables_ctl (s : State) (e : BitVec 15) :
    (writeEnables e s).ctl = s.ctl := rfl
@[simp] theorem writeEnables_ev (s : State) (e : BitVec 15) :
    (writeEnables e s).ev = { s.ev with enables := e, mint := mintLevel s.ev.flags e } := rfl
@[simp] theorem writeEnables_mgmt (s : State) (e : BitVec 15) :
    (writeEnables e s).mgmt = s.mgmt := rfl
@[simp] theorem writeEnables_pins (s : State) (e : BitVec 15) :
    (writeEnables e s).pins = s.pins := rfl
@[simp] theorem writeEnables_pending (s : State) (e : BitVec 15) :
    (writeEnables e s).pending = s.pending := rfl
@[simp] theorem writeEnables_chan (s : State) (e : BitVec 15) (j : Chan) :
    (writeEnables e s).chan j = s.chan j := rfl
@[simp] theorem writeEnables_group (s : State) (e : BitVec 15) (g : Group) :
    (writeEnables e s).group g = s.group g := rfl

/-! ### removeEvents -/

@[simp] theorem removeEvents_channels (s : State) (n : Nat) :
    (removeEvents n s).channels = s.channels := rfl
@[simp] theorem removeEvents_groups (s : State) (n : Nat) :
    (removeEvents n s).groups = s.groups := rfl
@[simp] theorem removeEvents_down (s : State) (n : Nat) :
    (removeEvents n s).down = s.down := rfl
@[simp] theorem removeEvents_port (s : State) (n : Nat) :
    (removeEvents n s).port = s.port := rfl
@[simp] theorem removeEvents_ctl (s : State) (n : Nat) :
    (removeEvents n s).ctl = s.ctl := rfl
@[simp] theorem removeEvents_ev (s : State) (n : Nat) :
    (removeEvents n s).ev = { s.ev with queue := s.ev.queue.drop n } := rfl
@[simp] theorem removeEvents_mgmt (s : State) (n : Nat) :
    (removeEvents n s).mgmt = s.mgmt := rfl
@[simp] theorem removeEvents_pins (s : State) (n : Nat) :
    (removeEvents n s).pins = s.pins := rfl
@[simp] theorem removeEvents_pending (s : State) (n : Nat) :
    (removeEvents n s).pending = s.pending := rfl
@[simp] theorem removeEvents_chan (s : State) (n : Nat) (j : Chan) :
    (removeEvents n s).chan j = s.chan j := rfl
@[simp] theorem removeEvents_group (s : State) (n : Nat) (g : Group) :
    (removeEvents n s).group g = s.group g := rfl

/-! ### freeBus -/

@[simp] theorem freeBus_channels (s : State) :
    (freeBus s).channels = s.channels := rfl
@[simp] theorem freeBus_groups (s : State) :
    (freeBus s).groups = s.groups := rfl
@[simp] theorem freeBus_down (s : State) :
    (freeBus s).down = { s.down with bus := .idle, timer := none } := rfl
@[simp] theorem freeBus_port (s : State) :
    (freeBus s).port = s.port := rfl
@[simp] theorem freeBus_ctl (s : State) :
    (freeBus s).ctl = s.ctl := rfl
@[simp] theorem freeBus_ev (s : State) :
    (freeBus s).ev = s.ev := rfl
@[simp] theorem freeBus_mgmt (s : State) :
    (freeBus s).mgmt = s.mgmt := rfl
@[simp] theorem freeBus_pins (s : State) :
    (freeBus s).pins = s.pins := rfl
@[simp] theorem freeBus_pending (s : State) :
    (freeBus s).pending = s.pending := rfl
@[simp] theorem freeBus_chan (s : State) (j : Chan) :
    (freeBus s).chan j = s.chan j := rfl
@[simp] theorem freeBus_group (s : State) (g : Group) :
    (freeBus s).group g = s.group g := rfl

/-! ### issuePass -/

@[simp] theorem issuePass_channels (s : State) :
    (issuePass s).channels = s.channels := rfl
@[simp] theorem issuePass_groups (s : State) :
    (issuePass s).groups = s.groups := rfl
@[simp] theorem issuePass_down (s : State) :
    (issuePass s).down = { bus := .pass, burst := 0, timer := some Config.downstreamTimeout } := rfl
@[simp] theorem issuePass_port (s : State) :
    (issuePass s).port = { s.port with state := .passOn } := rfl
@[simp] theorem issuePass_ctl (s : State) :
    (issuePass s).ctl = s.ctl := rfl
@[simp] theorem issuePass_ev (s : State) :
    (issuePass s).ev = s.ev := rfl
@[simp] theorem issuePass_mgmt (s : State) :
    (issuePass s).mgmt = s.mgmt := rfl
@[simp] theorem issuePass_pins (s : State) :
    (issuePass s).pins = s.pins := rfl
@[simp] theorem issuePass_pending (s : State) :
    (issuePass s).pending = s.pending := rfl
@[simp] theorem issuePass_chan (s : State) (j : Chan) :
    (issuePass s).chan j = s.chan j := rfl
@[simp] theorem issuePass_group (s : State) (g : Group) :
    (issuePass s).group g = s.group g := rfl

/-! ### respond -/

@[simp] theorem respond_channels (s : State) (r : Status) (p : List Byte) :
    (respond r p s).channels = s.channels := rfl
@[simp] theorem respond_groups (s : State) (r : Status) (p : List Byte) :
    (respond r p s).groups = s.groups := rfl
@[simp] theorem respond_down (s : State) (r : Status) (p : List Byte) :
    (respond r p s).down = s.down := rfl
@[simp] theorem respond_port (s : State) (r : Status) (p : List Byte) :
    (respond r p s).port = s.port := rfl
@[simp] theorem respond_ctl (s : State) (r : Status) (p : List Byte) :
    (respond r p s).ctl = s.ctl := rfl
@[simp] theorem respond_ev (s : State) (r : Status) (p : List Byte) :
    (respond r p s).ev = s.ev := rfl
@[simp] theorem respond_mgmt (s : State) (r : Status) (p : List Byte) :
    (respond r p s).mgmt = { s.mgmt with phase := .pending, response := some { status := r, payload := p } } := rfl
@[simp] theorem respond_pins (s : State) (r : Status) (p : List Byte) :
    (respond r p s).pins = s.pins := rfl
@[simp] theorem respond_pending (s : State) (r : Status) (p : List Byte) :
    (respond r p s).pending = s.pending := rfl
@[simp] theorem respond_chan (s : State) (r : Status) (p : List Byte) (j : Chan) :
    (respond r p s).chan j = s.chan j := rfl
@[simp] theorem respond_group (s : State) (r : Status) (p : List Byte) (g : Group) :
    (respond r p s).group g = s.group g := rfl

/-! ### enterHolding -/

@[simp] theorem enterHolding_groups (s : State) (c : Chan) (v : Byte) :
    (enterHolding c v s).groups = s.groups := rfl
@[simp] theorem enterHolding_down (s : State) (c : Chan) (v : Byte) :
    (enterHolding c v s).down = s.down := rfl
@[simp] theorem enterHolding_port (s : State) (c : Chan) (v : Byte) :
    (enterHolding c v s).port = s.port := rfl
@[simp] theorem enterHolding_ctl (s : State) (c : Chan) (v : Byte) :
    (enterHolding c v s).ctl = s.ctl := rfl
@[simp] theorem enterHolding_ev (s : State) (c : Chan) (v : Byte) :
    (enterHolding c v s).ev = s.ev := rfl
@[simp] theorem enterHolding_mgmt (s : State) (c : Chan) (v : Byte) :
    (enterHolding c v s).mgmt = s.mgmt := rfl
@[simp] theorem enterHolding_pins (s : State) (c : Chan) (v : Byte) :
    (enterHolding c v s).pins = s.pins := rfl
@[simp] theorem enterHolding_pending (s : State) (c : Chan) (v : Byte) :
    (enterHolding c v s).pending = s.pending := rfl
@[simp] theorem enterHolding_group (s : State) (c : Chan) (v : Byte) (g : Group) :
    (enterHolding c v s).group g = s.group g := rfl

/-! ### enterMark -/

@[simp] theorem enterMark_groups (s : State) (c : Chan) (p : TrainPart) (n : Nat) :
    (enterMark c p n s).groups = s.groups := rfl
@[simp] theorem enterMark_down (s : State) (c : Chan) (p : TrainPart) (n : Nat) :
    (enterMark c p n s).down = s.down := rfl
@[simp] theorem enterMark_port (s : State) (c : Chan) (p : TrainPart) (n : Nat) :
    (enterMark c p n s).port = s.port := rfl
@[simp] theorem enterMark_ctl (s : State) (c : Chan) (p : TrainPart) (n : Nat) :
    (enterMark c p n s).ctl = s.ctl := rfl
@[simp] theorem enterMark_ev (s : State) (c : Chan) (p : TrainPart) (n : Nat) :
    (enterMark c p n s).ev = s.ev := rfl
@[simp] theorem enterMark_mgmt (s : State) (c : Chan) (p : TrainPart) (n : Nat) :
    (enterMark c p n s).mgmt = s.mgmt := rfl
@[simp] theorem enterMark_pins (s : State) (c : Chan) (p : TrainPart) (n : Nat) :
    (enterMark c p n s).pins = s.pins := rfl
@[simp] theorem enterMark_pending (s : State) (c : Chan) (p : TrainPart) (n : Nat) :
    (enterMark c p n s).pending = s.pending := rfl
@[simp] theorem enterMark_group (s : State) (c : Chan) (p : TrainPart) (n : Nat) (g : Group) :
    (enterMark c p n s).group g = s.group g := rfl

/-! ### enterWaiting -/

@[simp] theorem enterWaiting_groups (s : State) (c : Chan) (q : Byte) :
    (enterWaiting c q s).groups = s.groups := rfl
@[simp] theorem enterWaiting_down (s : State) (c : Chan) (q : Byte) :
    (enterWaiting c q s).down = s.down := rfl
@[simp] theorem enterWaiting_port (s : State) (c : Chan) (q : Byte) :
    (enterWaiting c q s).port = s.port := rfl
@[simp] theorem enterWaiting_ctl (s : State) (c : Chan) (q : Byte) :
    (enterWaiting c q s).ctl = s.ctl := rfl
@[simp] theorem enterWaiting_ev (s : State) (c : Chan) (q : Byte) :
    (enterWaiting c q s).ev = s.ev := rfl
@[simp] theorem enterWaiting_mgmt (s : State) (c : Chan) (q : Byte) :
    (enterWaiting c q s).mgmt = s.mgmt := rfl
@[simp] theorem enterWaiting_pins (s : State) (c : Chan) (q : Byte) :
    (enterWaiting c q s).pins = s.pins := rfl
@[simp] theorem enterWaiting_pending (s : State) (c : Chan) (q : Byte) :
    (enterWaiting c q s).pending = s.pending := rfl
@[simp] theorem enterWaiting_group (s : State) (c : Chan) (q : Byte) (g : Group) :
    (enterWaiting c q s).group g = s.group g := rfl

/-! ### clearGroups -/

@[simp] theorem clearGroups_channels (s : State) :
    (clearGroups s).channels = s.channels := rfl
@[simp] theorem clearGroups_groups (s : State) :
    (clearGroups s).groups = Vector.replicate 4 GroupState.free := rfl
@[simp] theorem clearGroups_down (s : State) :
    (clearGroups s).down = s.down := rfl
@[simp] theorem clearGroups_port (s : State) :
    (clearGroups s).port = s.port := rfl
@[simp] theorem clearGroups_ctl (s : State) :
    (clearGroups s).ctl = s.ctl := rfl
@[simp] theorem clearGroups_ev (s : State) :
    (clearGroups s).ev = s.ev := rfl
@[simp] theorem clearGroups_mgmt (s : State) :
    (clearGroups s).mgmt = s.mgmt := rfl
@[simp] theorem clearGroups_pins (s : State) :
    (clearGroups s).pins = s.pins := rfl
@[simp] theorem clearGroups_pending (s : State) :
    (clearGroups s).pending = s.pending := rfl
@[simp] theorem clearGroups_chan (s : State) (j : Chan) :
    (clearGroups s).chan j = s.chan j := rfl

/-! ### requestFaultDrive -/

@[simp] theorem requestFaultDrive_groups (s : State) (c : Chan) (v : Byte) :
    (requestFaultDrive c v s).groups = s.groups := rfl
@[simp] theorem requestFaultDrive_down (s : State) (c : Chan) (v : Byte) :
    (requestFaultDrive c v s).down = s.down := rfl
@[simp] theorem requestFaultDrive_port (s : State) (c : Chan) (v : Byte) :
    (requestFaultDrive c v s).port = s.port := rfl
@[simp] theorem requestFaultDrive_ctl (s : State) (c : Chan) (v : Byte) :
    (requestFaultDrive c v s).ctl = s.ctl := rfl
@[simp] theorem requestFaultDrive_ev (s : State) (c : Chan) (v : Byte) :
    (requestFaultDrive c v s).ev = s.ev := rfl
@[simp] theorem requestFaultDrive_mgmt (s : State) (c : Chan) (v : Byte) :
    (requestFaultDrive c v s).mgmt = s.mgmt := rfl
@[simp] theorem requestFaultDrive_pins (s : State) (c : Chan) (v : Byte) :
    (requestFaultDrive c v s).pins = s.pins := rfl
@[simp] theorem requestFaultDrive_pending (s : State) (c : Chan) (v : Byte) :
    (requestFaultDrive c v s).pending = s.pending := rfl
@[simp] theorem requestFaultDrive_group (s : State) (c : Chan) (v : Byte) (g : Group) :
    (requestFaultDrive c v s).group g = s.group g := rfl

/-! ### appendEntry -/

@[simp] theorem appendEntry_channels (s : State) (c : Chan) (e : Entry) :
    (appendEntry c e s).channels = s.channels.set c.val { s.chan c with queue := (s.chan c).queue ++ [e] } := rfl
@[simp] theorem appendEntry_groups (s : State) (c : Chan) (e : Entry) :
    (appendEntry c e s).groups = s.groups := rfl
@[simp] theorem appendEntry_down (s : State) (c : Chan) (e : Entry) :
    (appendEntry c e s).down = s.down := rfl
@[simp] theorem appendEntry_port (s : State) (c : Chan) (e : Entry) :
    (appendEntry c e s).port = s.port := rfl
@[simp] theorem appendEntry_ctl (s : State) (c : Chan) (e : Entry) :
    (appendEntry c e s).ctl = s.ctl := rfl
@[simp] theorem appendEntry_ev (s : State) (c : Chan) (e : Entry) :
    (appendEntry c e s).ev = s.ev := rfl
@[simp] theorem appendEntry_mgmt (s : State) (c : Chan) (e : Entry) :
    (appendEntry c e s).mgmt = s.mgmt := rfl
@[simp] theorem appendEntry_pins (s : State) (c : Chan) (e : Entry) :
    (appendEntry c e s).pins = s.pins := rfl
@[simp] theorem appendEntry_pending (s : State) (c : Chan) (e : Entry) :
    (appendEntry c e s).pending = s.pending := rfl
@[simp] theorem appendEntry_group (s : State) (c : Chan) (e : Entry) (g : Group) :
    (appendEntry c e s).group g = s.group g := rfl

/-! ### emptyQueue -/

@[simp] theorem emptyQueue_channels (s : State) (c : Chan) :
    (emptyQueue c s).channels = s.channels.set c.val { s.chan c with queue := [] } := rfl
@[simp] theorem emptyQueue_groups (s : State) (c : Chan) :
    (emptyQueue c s).groups = s.groups := rfl
@[simp] theorem emptyQueue_down (s : State) (c : Chan) :
    (emptyQueue c s).down = s.down := rfl
@[simp] theorem emptyQueue_port (s : State) (c : Chan) :
    (emptyQueue c s).port = s.port := rfl
@[simp] theorem emptyQueue_ctl (s : State) (c : Chan) :
    (emptyQueue c s).ctl = s.ctl := rfl
@[simp] theorem emptyQueue_ev (s : State) (c : Chan) :
    (emptyQueue c s).ev = s.ev := rfl
@[simp] theorem emptyQueue_mgmt (s : State) (c : Chan) :
    (emptyQueue c s).mgmt = s.mgmt := rfl
@[simp] theorem emptyQueue_pins (s : State) (c : Chan) :
    (emptyQueue c s).pins = s.pins := rfl
@[simp] theorem emptyQueue_pending (s : State) (c : Chan) :
    (emptyQueue c s).pending = s.pending := rfl
@[simp] theorem emptyQueue_group (s : State) (c : Chan) (g : Group) :
    (emptyQueue c s).group g = s.group g := rfl

/-! ### dropHead -/

@[simp] theorem dropHead_channels (s : State) (c : Chan) :
    (dropHead c s).channels = s.channels.set c.val { s.chan c with queue := (s.chan c).queue.tail } := rfl
@[simp] theorem dropHead_groups (s : State) (c : Chan) :
    (dropHead c s).groups = s.groups := rfl
@[simp] theorem dropHead_down (s : State) (c : Chan) :
    (dropHead c s).down = s.down := rfl
@[simp] theorem dropHead_port (s : State) (c : Chan) :
    (dropHead c s).port = s.port := rfl
@[simp] theorem dropHead_ctl (s : State) (c : Chan) :
    (dropHead c s).ctl = s.ctl := rfl
@[simp] theorem dropHead_ev (s : State) (c : Chan) :
    (dropHead c s).ev = s.ev := rfl
@[simp] theorem dropHead_mgmt (s : State) (c : Chan) :
    (dropHead c s).mgmt = s.mgmt := rfl
@[simp] theorem dropHead_pins (s : State) (c : Chan) :
    (dropHead c s).pins = s.pins := rfl
@[simp] theorem dropHead_pending (s : State) (c : Chan) :
    (dropHead c s).pending = s.pending := rfl
@[simp] theorem dropHead_group (s : State) (c : Chan) (g : Group) :
    (dropHead c s).group g = s.group g := rfl

/-! ### modComparison -/

@[simp] theorem modComparison_groups (s : State) (c : Chan) (f : FeedbackPart → Comparison → Comparison) :
    (modComparison c f s).groups = s.groups := rfl
@[simp] theorem modComparison_down (s : State) (c : Chan) (f : FeedbackPart → Comparison → Comparison) :
    (modComparison c f s).down = s.down := rfl
@[simp] theorem modComparison_port (s : State) (c : Chan) (f : FeedbackPart → Comparison → Comparison) :
    (modComparison c f s).port = s.port := rfl
@[simp] theorem modComparison_ctl (s : State) (c : Chan) (f : FeedbackPart → Comparison → Comparison) :
    (modComparison c f s).ctl = s.ctl := rfl
@[simp] theorem modComparison_ev (s : State) (c : Chan) (f : FeedbackPart → Comparison → Comparison) :
    (modComparison c f s).ev = s.ev := rfl
@[simp] theorem modComparison_mgmt (s : State) (c : Chan) (f : FeedbackPart → Comparison → Comparison) :
    (modComparison c f s).mgmt = s.mgmt := rfl
@[simp] theorem modComparison_pins (s : State) (c : Chan) (f : FeedbackPart → Comparison → Comparison) :
    (modComparison c f s).pins = s.pins := rfl
@[simp] theorem modComparison_pending (s : State) (c : Chan) (f : FeedbackPart → Comparison → Comparison) :
    (modComparison c f s).pending = s.pending := rfl
@[simp] theorem modComparison_group (s : State) (c : Chan) (f : FeedbackPart → Comparison → Comparison) (g : Group) :
    (modComparison c f s).group g = s.group g := rfl

/-! ### setMode -/

@[simp] theorem setMode_channels (s : State) (m : Mode) :
    (setMode m s).channels = s.channels := rfl
@[simp] theorem setMode_groups (s : State) (m : Mode) :
    (setMode m s).groups = s.groups := rfl
@[simp] theorem setMode_down (s : State) (m : Mode) :
    (setMode m s).down = s.down := rfl
@[simp] theorem setMode_port (s : State) (m : Mode) :
    (setMode m s).port = s.port := rfl
@[simp] theorem setMode_ctl (s : State) (m : Mode) :
    (setMode m s).ctl = { s.ctl with mode := m } := rfl
@[simp] theorem setMode_ev (s : State) (m : Mode) :
    (setMode m s).ev = s.ev := rfl
@[simp] theorem setMode_mgmt (s : State) (m : Mode) :
    (setMode m s).mgmt = s.mgmt := rfl
@[simp] theorem setMode_pins (s : State) (m : Mode) :
    (setMode m s).pins = s.pins := rfl
@[simp] theorem setMode_pending (s : State) (m : Mode) :
    (setMode m s).pending = s.pending := rfl
@[simp] theorem setMode_chan (s : State) (m : Mode) (j : Chan) :
    (setMode m s).chan j = s.chan j := rfl
@[simp] theorem setMode_group (s : State) (m : Mode) (g : Group) :
    (setMode m s).group g = s.group g := rfl

/-! ### setHeartbeat -/

@[simp] theorem setHeartbeat_channels (s : State) (t : Option Nat) :
    (setHeartbeat t s).channels = s.channels := rfl
@[simp] theorem setHeartbeat_groups (s : State) (t : Option Nat) :
    (setHeartbeat t s).groups = s.groups := rfl
@[simp] theorem setHeartbeat_down (s : State) (t : Option Nat) :
    (setHeartbeat t s).down = s.down := rfl
@[simp] theorem setHeartbeat_port (s : State) (t : Option Nat) :
    (setHeartbeat t s).port = s.port := rfl
@[simp] theorem setHeartbeat_ctl (s : State) (t : Option Nat) :
    (setHeartbeat t s).ctl = { s.ctl with heartbeat := t } := rfl
@[simp] theorem setHeartbeat_ev (s : State) (t : Option Nat) :
    (setHeartbeat t s).ev = s.ev := rfl
@[simp] theorem setHeartbeat_mgmt (s : State) (t : Option Nat) :
    (setHeartbeat t s).mgmt = s.mgmt := rfl
@[simp] theorem setHeartbeat_pins (s : State) (t : Option Nat) :
    (setHeartbeat t s).pins = s.pins := rfl
@[simp] theorem setHeartbeat_pending (s : State) (t : Option Nat) :
    (setHeartbeat t s).pending = s.pending := rfl
@[simp] theorem setHeartbeat_chan (s : State) (t : Option Nat) (j : Chan) :
    (setHeartbeat t s).chan j = s.chan j := rfl
@[simp] theorem setHeartbeat_group (s : State) (t : Option Nat) (g : Group) :
    (setHeartbeat t s).group g = s.group g := rfl

/-! ### setSafeCause -/

@[simp] theorem setSafeCause_channels (s : State) (r : SafeCause) :
    (setSafeCause r s).channels = s.channels := rfl
@[simp] theorem setSafeCause_groups (s : State) (r : SafeCause) :
    (setSafeCause r s).groups = s.groups := rfl
@[simp] theorem setSafeCause_down (s : State) (r : SafeCause) :
    (setSafeCause r s).down = s.down := rfl
@[simp] theorem setSafeCause_port (s : State) (r : SafeCause) :
    (setSafeCause r s).port = s.port := rfl
@[simp] theorem setSafeCause_ctl (s : State) (r : SafeCause) :
    (setSafeCause r s).ctl = { s.ctl with lastSafeCause := some r } := rfl
@[simp] theorem setSafeCause_ev (s : State) (r : SafeCause) :
    (setSafeCause r s).ev = s.ev := rfl
@[simp] theorem setSafeCause_mgmt (s : State) (r : SafeCause) :
    (setSafeCause r s).mgmt = s.mgmt := rfl
@[simp] theorem setSafeCause_pins (s : State) (r : SafeCause) :
    (setSafeCause r s).pins = s.pins := rfl
@[simp] theorem setSafeCause_pending (s : State) (r : SafeCause) :
    (setSafeCause r s).pending = s.pending := rfl
@[simp] theorem setSafeCause_chan (s : State) (r : SafeCause) (j : Chan) :
    (setSafeCause r s).chan j = s.chan j := rfl
@[simp] theorem setSafeCause_group (s : State) (r : SafeCause) (g : Group) :
    (setSafeCause r s).group g = s.group g := rfl

/-! ### storeSettings -/

@[simp] theorem storeSettings_channels (s : State) (a : Addr) (w : Half) (l : Byte) :
    (storeSettings a w l s).channels = s.channels := rfl
@[simp] theorem storeSettings_groups (s : State) (a : Addr) (w : Half) (l : Byte) :
    (storeSettings a w l s).groups = s.groups := rfl
@[simp] theorem storeSettings_down (s : State) (a : Addr) (w : Half) (l : Byte) :
    (storeSettings a w l s).down = s.down := rfl
@[simp] theorem storeSettings_port (s : State) (a : Addr) (w : Half) (l : Byte) :
    (storeSettings a w l s).port = s.port := rfl
@[simp] theorem storeSettings_ctl (s : State) (a : Addr) (w : Half) (l : Byte) :
    (storeSettings a w l s).ctl = { s.ctl with heartbeatAddress := a, heartbeatTimeout := w, stallLimit := l } := rfl
@[simp] theorem storeSettings_ev (s : State) (a : Addr) (w : Half) (l : Byte) :
    (storeSettings a w l s).ev = s.ev := rfl
@[simp] theorem storeSettings_mgmt (s : State) (a : Addr) (w : Half) (l : Byte) :
    (storeSettings a w l s).mgmt = s.mgmt := rfl
@[simp] theorem storeSettings_pins (s : State) (a : Addr) (w : Half) (l : Byte) :
    (storeSettings a w l s).pins = s.pins := rfl
@[simp] theorem storeSettings_pending (s : State) (a : Addr) (w : Half) (l : Byte) :
    (storeSettings a w l s).pending = s.pending := rfl
@[simp] theorem storeSettings_chan (s : State) (a : Addr) (w : Half) (l : Byte) (j : Chan) :
    (storeSettings a w l s).chan j = s.chan j := rfl
@[simp] theorem storeSettings_group (s : State) (a : Addr) (w : Half) (l : Byte) (g : Group) :
    (storeSettings a w l s).group g = s.group g := rfl

/-! ### arrive -/

@[simp] theorem arrive_channels (s : State) (k : CycleKind) (a : Addr) (v : Option Byte) (d : Option HostDecode) :
    (arrive k a v d s).channels = s.channels := rfl
@[simp] theorem arrive_groups (s : State) (k : CycleKind) (a : Addr) (v : Option Byte) (d : Option HostDecode) :
    (arrive k a v d s).groups = s.groups := rfl
@[simp] theorem arrive_down (s : State) (k : CycleKind) (a : Addr) (v : Option Byte) (d : Option HostDecode) :
    (arrive k a v d s).down = s.down := rfl
@[simp] theorem arrive_port (s : State) (k : CycleKind) (a : Addr) (v : Option Byte) (d : Option HostDecode) :
    (arrive k a v d s).port = { HostPort.idle with cycle := some { kind := k, address := a, data := v, decode := d, ending := none, answer := none } } := rfl
@[simp] theorem arrive_ctl (s : State) (k : CycleKind) (a : Addr) (v : Option Byte) (d : Option HostDecode) :
    (arrive k a v d s).ctl = s.ctl := rfl
@[simp] theorem arrive_ev (s : State) (k : CycleKind) (a : Addr) (v : Option Byte) (d : Option HostDecode) :
    (arrive k a v d s).ev = s.ev := rfl
@[simp] theorem arrive_mgmt (s : State) (k : CycleKind) (a : Addr) (v : Option Byte) (d : Option HostDecode) :
    (arrive k a v d s).mgmt = s.mgmt := rfl
@[simp] theorem arrive_pins (s : State) (k : CycleKind) (a : Addr) (v : Option Byte) (d : Option HostDecode) :
    (arrive k a v d s).pins = s.pins := rfl
@[simp] theorem arrive_pending (s : State) (k : CycleKind) (a : Addr) (v : Option Byte) (d : Option HostDecode) :
    (arrive k a v d s).pending = s.pending := rfl
@[simp] theorem arrive_chan (s : State) (k : CycleKind) (a : Addr) (v : Option Byte) (d : Option HostDecode) (j : Chan) :
    (arrive k a v d s).chan j = s.chan j := rfl
@[simp] theorem arrive_group (s : State) (k : CycleKind) (a : Addr) (v : Option Byte) (d : Option HostDecode) (g : Group) :
    (arrive k a v d s).group g = s.group g := rfl

/-! ### stallHost -/

@[simp] theorem stallHost_channels (s : State) (c : Chan) (v : Byte) (e : Entry) :
    (stallHost c v e s).channels = s.channels := rfl
@[simp] theorem stallHost_groups (s : State) (c : Chan) (v : Byte) (e : Entry) :
    (stallHost c v e s).groups = s.groups := rfl
@[simp] theorem stallHost_down (s : State) (c : Chan) (v : Byte) (e : Entry) :
    (stallHost c v e s).down = s.down := rfl
@[simp] theorem stallHost_port (s : State) (c : Chan) (v : Byte) (e : Entry) :
    (stallHost c v e s).port = { s.port with state := .stalled, stallTimer := some s.ctl.stallLimit.toNat, held := some { channel := c, data := v, entry := e } } := rfl
@[simp] theorem stallHost_ctl (s : State) (c : Chan) (v : Byte) (e : Entry) :
    (stallHost c v e s).ctl = s.ctl := rfl
@[simp] theorem stallHost_ev (s : State) (c : Chan) (v : Byte) (e : Entry) :
    (stallHost c v e s).ev = s.ev := rfl
@[simp] theorem stallHost_mgmt (s : State) (c : Chan) (v : Byte) (e : Entry) :
    (stallHost c v e s).mgmt = s.mgmt := rfl
@[simp] theorem stallHost_pins (s : State) (c : Chan) (v : Byte) (e : Entry) :
    (stallHost c v e s).pins = s.pins := rfl
@[simp] theorem stallHost_pending (s : State) (c : Chan) (v : Byte) (e : Entry) :
    (stallHost c v e s).pending = s.pending := rfl
@[simp] theorem stallHost_chan (s : State) (c : Chan) (v : Byte) (e : Entry) (j : Chan) :
    (stallHost c v e s).chan j = s.chan j := rfl
@[simp] theorem stallHost_group (s : State) (c : Chan) (v : Byte) (e : Entry) (g : Group) :
    (stallHost c v e s).group g = s.group g := rfl

/-! ### setSafePin -/

@[simp] theorem setSafePin_channels (s : State) (b : Bool) :
    (setSafePin b s).channels = s.channels := rfl
@[simp] theorem setSafePin_groups (s : State) (b : Bool) :
    (setSafePin b s).groups = s.groups := rfl
@[simp] theorem setSafePin_down (s : State) (b : Bool) :
    (setSafePin b s).down = s.down := rfl
@[simp] theorem setSafePin_port (s : State) (b : Bool) :
    (setSafePin b s).port = s.port := rfl
@[simp] theorem setSafePin_ctl (s : State) (b : Bool) :
    (setSafePin b s).ctl = s.ctl := rfl
@[simp] theorem setSafePin_ev (s : State) (b : Bool) :
    (setSafePin b s).ev = s.ev := rfl
@[simp] theorem setSafePin_mgmt (s : State) (b : Bool) :
    (setSafePin b s).mgmt = s.mgmt := rfl
@[simp] theorem setSafePin_pins (s : State) (b : Bool) :
    (setSafePin b s).pins = { s.pins with safeHigh := b } := rfl
@[simp] theorem setSafePin_pending (s : State) (b : Bool) :
    (setSafePin b s).pending = s.pending := rfl
@[simp] theorem setSafePin_chan (s : State) (b : Bool) (j : Chan) :
    (setSafePin b s).chan j = s.chan j := rfl
@[simp] theorem setSafePin_group (s : State) (b : Bool) (g : Group) :
    (setSafePin b s).group g = s.group g := rfl

/-! ### setSelect -/

@[simp] theorem setSelect_channels (s : State) (l : Bool) :
    (setSelect l s).channels = s.channels := rfl
@[simp] theorem setSelect_groups (s : State) (l : Bool) :
    (setSelect l s).groups = s.groups := rfl
@[simp] theorem setSelect_down (s : State) (l : Bool) :
    (setSelect l s).down = s.down := rfl
@[simp] theorem setSelect_port (s : State) (l : Bool) :
    (setSelect l s).port = s.port := rfl
@[simp] theorem setSelect_ctl (s : State) (l : Bool) :
    (setSelect l s).ctl = s.ctl := rfl
@[simp] theorem setSelect_ev (s : State) (l : Bool) :
    (setSelect l s).ev = s.ev := rfl
@[simp] theorem setSelect_mgmt (s : State) (l : Bool) :
    (setSelect l s).mgmt = s.mgmt := rfl
@[simp] theorem setSelect_pins (s : State) (l : Bool) :
    (setSelect l s).pins = { s.pins with mcsLow := l } := rfl
@[simp] theorem setSelect_pending (s : State) (l : Bool) :
    (setSelect l s).pending = s.pending := rfl
@[simp] theorem setSelect_chan (s : State) (l : Bool) (j : Chan) :
    (setSelect l s).chan j = s.chan j := rfl
@[simp] theorem setSelect_group (s : State) (l : Bool) (g : Group) :
    (setSelect l s).group g = s.group g := rfl

/-! ### setClock -/

@[simp] theorem setClock_channels (s : State) (r : Bool) :
    (setClock r s).channels = s.channels := rfl
@[simp] theorem setClock_groups (s : State) (r : Bool) :
    (setClock r s).groups = s.groups := rfl
@[simp] theorem setClock_down (s : State) (r : Bool) :
    (setClock r s).down = s.down := rfl
@[simp] theorem setClock_port (s : State) (r : Bool) :
    (setClock r s).port = s.port := rfl
@[simp] theorem setClock_ctl (s : State) (r : Bool) :
    (setClock r s).ctl = s.ctl := rfl
@[simp] theorem setClock_ev (s : State) (r : Bool) :
    (setClock r s).ev = s.ev := rfl
@[simp] theorem setClock_mgmt (s : State) (r : Bool) :
    (setClock r s).mgmt = s.mgmt := rfl
@[simp] theorem setClock_pins (s : State) (r : Bool) :
    (setClock r s).pins = { s.pins with clkRunning := r } := rfl
@[simp] theorem setClock_pending (s : State) (r : Bool) :
    (setClock r s).pending = s.pending := rfl
@[simp] theorem setClock_chan (s : State) (r : Bool) (j : Chan) :
    (setClock r s).chan j = s.chan j := rfl
@[simp] theorem setClock_group (s : State) (r : Bool) (g : Group) :
    (setClock r s).group g = s.group g := rfl

/-! ### showStrobes -/

@[simp] theorem showStrobes_channels (s : State) (m : Option HostStrobes) :
    (showStrobes m s).channels = s.channels := rfl
@[simp] theorem showStrobes_groups (s : State) (m : Option HostStrobes) :
    (showStrobes m s).groups = s.groups := rfl
@[simp] theorem showStrobes_down (s : State) (m : Option HostStrobes) :
    (showStrobes m s).down = s.down := rfl
@[simp] theorem showStrobes_port (s : State) (m : Option HostStrobes) :
    (showStrobes m s).port = s.port := rfl
@[simp] theorem showStrobes_ctl (s : State) (m : Option HostStrobes) :
    (showStrobes m s).ctl = s.ctl := rfl
@[simp] theorem showStrobes_ev (s : State) (m : Option HostStrobes) :
    (showStrobes m s).ev = s.ev := rfl
@[simp] theorem showStrobes_mgmt (s : State) (m : Option HostStrobes) :
    (showStrobes m s).mgmt = s.mgmt := rfl
@[simp] theorem showStrobes_pins (s : State) (m : Option HostStrobes) :
    (showStrobes m s).pins = { s.pins with strobes := some m } := rfl
@[simp] theorem showStrobes_pending (s : State) (m : Option HostStrobes) :
    (showStrobes m s).pending = s.pending := rfl
@[simp] theorem showStrobes_chan (s : State) (m : Option HostStrobes) (j : Chan) :
    (showStrobes m s).chan j = s.chan j := rfl
@[simp] theorem showStrobes_group (s : State) (m : Option HostStrobes) (g : Group) :
    (showStrobes m s).group g = s.group g := rfl

/-! ### advanceTime -/

@[simp] theorem advanceTime_groups (s : State) : (advanceTime s).groups = s.groups := rfl
@[simp] theorem advanceTime_down (s : State) : (advanceTime s).down = s.down := rfl
@[simp] theorem advanceTime_port (s : State) : (advanceTime s).port = s.port := rfl
@[simp] theorem advanceTime_ev (s : State) : (advanceTime s).ev = s.ev := rfl
@[simp] theorem advanceTime_mgmt (s : State) : (advanceTime s).mgmt = s.mgmt := rfl
@[simp] theorem advanceTime_pins (s : State) : (advanceTime s).pins = s.pins := rfl
@[simp] theorem advanceTime_pending (s : State) : (advanceTime s).pending = s.pending := rfl
@[simp] theorem advanceTime_ctl (s : State) :
    (advanceTime s).ctl =
      { s.ctl with timestamp := s.ctl.timestamp + 1, heartbeat := tickTimer s.ctl.heartbeat } := rfl
@[simp] theorem advanceTime_group (s : State) (g : Group) : (advanceTime s).group g = s.group g := rfl

/-! ### Reading the table after an update -/

@[simp] theorem setChan_chan_self (s : State) (c : Chan) (x : Channel) : (s.setChan c x).chan c = x := by
  simp [State.setChan, State.chan]

theorem setChan_chan (s : State) (c k : Chan) (x : Channel) :
    (s.setChan c x).chan k = if k = c then x else s.chan k := by
  by_cases h : k = c
  · simp [h]
  · have : c.val ≠ k.val := fun e => h (Fin.ext e.symm)
    simp [State.setChan, State.chan, h, this]

@[simp] theorem setChan_chan_ne (s : State) (c k : Chan) (x : Channel) (h : k ≠ c) :
    (s.setChan c x).chan k = s.chan k := by simp [setChan_chan, h]

@[simp] theorem modChan_chan_self (s : State) (c : Chan) (f : Channel → Channel) :
    (modChan c f s).chan c = f (s.chan c) := setChan_chan_self s c _

theorem modChan_chan (s : State) (c k : Chan) (f : Channel → Channel) :
    (modChan c f s).chan k = if k = c then f (s.chan c) else s.chan k := setChan_chan s c k _

@[simp] theorem modChan_chan_ne (s : State) (c k : Chan) (f : Channel → Channel) (h : k ≠ c) :
    (modChan c f s).chan k = s.chan k := setChan_chan_ne s c k _ h

@[simp] theorem mapChans_chan (s : State) (k : Chan) (f : Channel → Channel) :
    (mapChans f s).chan k = f (s.chan k) := by
  simp [mapChans, State.chan]

theorem advanceTime_chan (s : State) (k : Chan) : (advanceTime s).chan k = (s.chan k).tick :=
  mapChans_chan _ k _

@[simp] theorem setGroup_group_self (s : State) (g : Group) (x : GroupState) :
    (s.setGroup g x).group g = x := by
  simp [State.setGroup, State.group]

theorem setGroup_group (s : State) (g h : Group) (x : GroupState) :
    (s.setGroup g x).group h = if h = g then x else s.group h := by
  by_cases e : h = g
  · simp [e]
  · have : g.val ≠ h.val := fun q => e (Fin.ext q.symm)
    simp [State.setGroup, State.group, e, this]

@[simp] theorem setGroup_group_ne (s : State) (g h : Group) (x : GroupState) (e : h ≠ g) :
    (s.setGroup g x).group h = s.group h := by simp [setGroup_group, e]

@[simp] theorem clearGroups_group (s : State) (g : Group) : (clearGroups s).group g = GroupState.free := by
  simp [clearGroups, State.group]

@[simp] theorem setChan_setChan (s : State) (c : Chan) (x y : Channel) :
    (s.setChan c x).setChan c y = s.setChan c y := by simp [State.setChan, Vector.set_set]

@[simp] theorem setChan_self (s : State) (c : Chan) : s.setChan c (s.chan c) = s := by
  simp [State.setChan, State.chan]

@[simp] theorem setGroup_setGroup (s : State) (g : Group) (x y : GroupState) :
    (s.setGroup g x).setGroup g y = s.setGroup g y := by simp [State.setGroup, Vector.set_set]

/-- Updates of a channel and of a group do not meet. -/
theorem setGroup_setChan (s : State) (g : Group) (c : Chan) (x : Channel) (y : GroupState) :
    (s.setChan c x).setGroup g y = (s.setGroup g y).setChan c x := rfl

theorem requestDrive_chan (s : State) (c k : Chan) (v : Byte) :
    (requestDrive c v s).chan k = if k = c then { s.chan c with slot := some v } else s.chan k :=
  modChan_chan s c k _

theorem chan_ext {s t : State} (h : ∀ c : Chan, s.chan c = t.chan c) : s.channels = t.channels :=
  Vector.ext fun i hi => h ⟨i, hi⟩

theorem group_ext {s t : State} (h : ∀ g : Group, s.group g = t.group g) : s.groups = t.groups :=
  Vector.ext fun i hi => h ⟨i, hi⟩

theorem mem_allChans (c : Chan) : c ∈ allChans := by
  revert c; decide

end Sys2Proof.Machine
end

