-- ==== Sys2Proof/Laws/Ops.lean ====
section
/-! SUPPORT. For each shared operation a lemma that says once what it can do, so that a proof cites it and
does not unfold the operation. -/

namespace Sys2Proof.Machine

/-! ### Events and requests -/

theorem onEvent_taken {s t : State} {b : Bool} (h : s.live = true) (hb : b = true) :
    s.onEvent b t = t := by simp [State.onEvent, h, hb]

theorem onEvent_cases (s t : State) (b : Bool) : s.onEvent b t = t ∨ s.onEvent b t = s := by
  unfold State.onEvent; split <;> simp

/-- A request taken by a listening port in a mode that takes it is its body. -/
theorem takeRequest_taken {n : Nat} {a : Acceptance} {p : List Byte} {s t : State}
    (hl : s.live = true) (hp : s.mgmt.phase = .request) (hn : p.length = n)
    (hm : takenIn a s.ctl.mode = true) : takeRequest n a p s t = t := by
  simp [takeRequest, State.onEvent, hl, hp, hn, hm]

/-- A request of a wrong length is answered BAD_LENGTH, in every mode (R176 step 4). -/
theorem takeRequest_length {n : Nat} {a : Acceptance} {p : List Byte} {s t : State}
    (hl : s.live = true) (hp : s.mgmt.phase = .request) (hn : p.length ≠ n) :
    takeRequest n a p s t = respond .badLength [] s := by
  simp [takeRequest, State.onEvent, hl, hp, hn]

/-- A request in a mode that does not take it is answered BUSY or WRONG_MODE (R176 step 5). -/
theorem takeRequest_mode {n : Nat} {a : Acceptance} {p : List Byte} {s t : State}
    (hl : s.live = true) (hp : s.mgmt.phase = .request) (hn : p.length = n)
    (hm : takenIn a s.ctl.mode = false) :
    takeRequest n a p s t = respond (modeRefusal s.ctl.mode) [] s := by
  simp [takeRequest, State.onEvent, hl, hp, hn, hm]

theorem withChannel_bad {p : List Byte} {s : State} {f : Chan → State}
    (h : 16 ≤ (byteAt p 0).toNat) : withChannel p s f = respond .badChannel [] s := by
  have : ¬ (byteAt p 0).toNat < 16 := by omega
  simp [withChannel, chanOf, this]

theorem withChannel_good {p : List Byte} {s : State} {f : Chan → State} {c : Chan}
    (h : (byteAt p 0).toNat = c.val) : withChannel p s f = f c := by
  have : (byteAt p 0).toNat < 16 := by omega
  simp [withChannel, chanOf, h]

/-! ### The downstream arbiter -/

/-- The channel the arbiter picks has a pending drive and a descriptor, and no lower one has both. -/
theorem lowestPending_some {s : State} {c : Chan} (h : s.lowestPending = some c) :
    (s.chan c).slot.isSome = true ∧ (s.chan c).desc.isSome = true := by
  have := List.find?_some h
  simpa using this

theorem lowestPending_none {s : State} (h : s.lowestPending = none) (c : Chan) :
    (s.chan c).slot = none ∨ (s.chan c).desc = none := by
  have := List.find?_eq_none.mp h c (mem_allChans c)
  by_cases hs : (s.chan c).slot = none
  · exact .inl hs
  · refine .inr ?_
    simp only [Bool.and_eq_true, Option.isSome_iff_ne_none, not_and, not_not] at this
    exact this hs

/-- The issue of a pending drive (R94, R100). -/
theorem issueDrive_eq {s : State} {c : Chan} {d : Descriptor} {v : Byte}
    (hd : (s.chan c).desc = some d) (hv : (s.chan c).slot = some v) :
    issueDrive c s =
      { s.setChan c { s.chan c with slot := none } with
        down :=
          { bus := .drive { channel := c, address := d.target, value := v, attached := true }
            burst := min 4 (s.down.burst + 1)
            timer := some 1000 } } := by
  simp [issueDrive, hd, hv, modChan, Config.burstLimit, Config.downstreamTimeout]

theorem arbitrate_busy {s : State} (h : s.down.bus ≠ .idle) : arbitrate s = s := by
  unfold arbitrate; split <;> simp_all

/-- Everything the arbiter can do: nothing at a busy bus; else it issues the drive of the
lowest-numbered channel, or the waiting pass-through cycle, or leaves the bus IDLE with burst count 0
(R97). -/
theorem arbitrate_cases (s : State) :
    (s.down.bus ≠ .idle ∧ arbitrate s = s) ∨
    (s.down.bus = .idle ∧ ∃ c, s.lowestPending = some c ∧
      ¬ (s.port.state = .passWait ∧ s.down.burst = 4) ∧ arbitrate s = issueDrive c s) ∨
    (s.down.bus = .idle ∧ s.port.state = .passWait ∧
      (s.lowestPending = none ∨ s.down.burst = 4) ∧ arbitrate s = issuePass s) ∨
    (s.down.bus = .idle ∧ s.lowestPending = none ∧ s.port.state ≠ .passWait ∧
      arbitrate s = { s with down := { s.down with burst := 0 } }) := by
  unfold arbitrate
  cases hb : s.down.bus <;> simp only [Config.burstLimit, ne_eq, reduceCtorEq, not_false_eq_true, true_and,
    not_true_eq_false, false_and, true_or]
  cases hl : s.lowestPending with
  | none => by_cases hp : s.port.state = .passWait <;> simp [hp]
  | some c => by_cases hp : s.port.state = .passWait ∧ s.down.burst = 4 <;> simp [hp]

/-- What the arbiter leaves alone. -/
theorem arbitrate_frame (s : State) :
    (arbitrate s).groups = s.groups ∧ (arbitrate s).ctl = s.ctl ∧ (arbitrate s).ev = s.ev ∧
    (arbitrate s).mgmt = s.mgmt ∧ (arbitrate s).pins = s.pins ∧ (arbitrate s).pending = s.pending := by
  unfold arbitrate issueDrive issuePass
  repeat' split
  all_goals simp [modChan, State.setChan]

@[simp] theorem arbitrate_groups (s : State) : (arbitrate s).groups = s.groups := (arbitrate_frame s).1
@[simp] theorem arbitrate_ctl (s : State) : (arbitrate s).ctl = s.ctl := (arbitrate_frame s).2.1
@[simp] theorem arbitrate_ev (s : State) : (arbitrate s).ev = s.ev := (arbitrate_frame s).2.2.1
@[simp] theorem arbitrate_mgmt (s : State) : (arbitrate s).mgmt = s.mgmt := (arbitrate_frame s).2.2.2.1
@[simp] theorem arbitrate_pins (s : State) : (arbitrate s).pins = s.pins := (arbitrate_frame s).2.2.2.2.1
@[simp] theorem arbitrate_pending (s : State) : (arbitrate s).pending = s.pending :=
  (arbitrate_frame s).2.2.2.2.2

/-- Of a channel the arbiter changes the slot alone, and it can only empty it. -/
theorem arbitrate_chan (s : State) (k : Chan) :
    (arbitrate s).chan k = s.chan k ∨
      (arbitrate s).chan k = { s.chan k with slot := none } ∧ (s.chan k).slot.isSome = true := by
  unfold arbitrate issueDrive issuePass
  repeat' split
  all_goals first
    | exact .inl rfl
    | (rename_i c _ _ _ _ _ _ _ hv
       by_cases hk : k = c
       · subst hk; exact .inr ⟨modChan_chan_self s k fun x => { x with slot := none }, by simp [hv]⟩
       · exact .inl (modChan_chan_ne s c k (fun x => { x with slot := none }) hk))

/-! ### The host bus port -/

/-- An answer given while the host still holds its strobes (R109). -/
theorem answerHost_held {s : State} {e : EndKind} {a : Option Byte} (h : s.port.released = false) :
    answerHost e a s =
      { s with
        port :=
          { state := .ending
            cycle := s.port.cycle.map fun k => { k with ending := some e, answer := a }
            stallTimer := none, held := none, released := false } } := by
  simp [answerHost, h]

/-- An answer to a host that has already gone (R124). -/
theorem answerHost_gone {s : State} {e : EndKind} {a : Option Byte} (h : s.port.released = true) :
    answerHost e a s = { s with port := HostPort.idle } := by simp [answerHost, h]

theorem answerHost_frame (e : EndKind) (a : Option Byte) (s : State) :
    answerHost e a s = { s with port := (answerHost e a s).port } := by
  unfold answerHost; split <;> rfl

/-- A stall is given up only when it stands and concerns one of the channels named (R122). -/
theorem giveUpStall_cases (f : Chan → Bool) (s : State) :
    giveUpStall f s = s ∨
      ∃ h, s.port.held = some h ∧ s.port.state = .stalled ∧ f h.channel = true ∧
        giveUpStall f s =
          answerHost .normal none (recordChannel .blockedWrite h.channel h.data s) := by
  unfold giveUpStall
  split
  · rename_i h hh
    split
    · rename_i hc
      exact .inr ⟨h, hh, hc.1, hc.2, rfl⟩
    · exact .inl rfl
  · exact .inl rfl

/-- The strobes taken: nothing has changed, or the cycle held goes on, or it has ended as by HOST_CYCLE_END and
a cycle asserted arrives at the port if that is IDLE (R195). -/
theorem takeStrobes_cases (arrival : HostStrobes → State → State) (s : State) :
    (s.pins.strobes = none ∧ takeStrobes arrival s = s) ∨
    ∃ m, s.pins.strobes = some m ∧
      let t := { s with pins := { s.pins with strobes := none } }
      ((t.portIdle = false ∧ ∃ h k, m = some h ∧ s.port.cycle = some k ∧ h.keep k.kind = true ∧
          takeStrobes arrival s = t) ∨
        takeStrobes arrival s = strobesReleased t ∨
        ∃ h, m = some h ∧ (strobesReleased t).portIdle = true ∧
          takeStrobes arrival s = arrival h (strobesReleased t)) := by
  unfold takeStrobes
  split
  · exact .inl ⟨‹_›, rfl⟩
  · rename_i m hm
    refine .inr ⟨m, hm, ?_⟩
    dsimp only
    split
    · rename_i hk
      simp only [Bool.and_eq_true, Bool.not_eq_true', Option.any_eq_true] at hk
      obtain ⟨hi, h, rfl, k, hc, hkeep⟩ := hk
      exact .inl ⟨hi, h, k, rfl, hc, hkeep, rfl⟩
    · cases m with
      | none => exact .inr (.inl rfl)
      | some h =>
        dsimp only
        split
        · rename_i hi; exact .inr (.inr ⟨h, rfl, hi, rfl⟩)
        · exact .inr (.inl rfl)

/-- A host gone changes the port alone (R124). -/
theorem strobesReleased_frame (s : State) :
    strobesReleased s = { s with port := (strobesReleased s).port } := by
  unfold strobesReleased; split <;> rfl

/-- With CLK stopped an arrival changes what the strobes show and nothing else (R195). -/
theorem onArrival_stopped {s t : State} {b : Bool} {h : HostStrobes} (hc : s.pins.clkRunning = false) :
    s.onArrival b h t = if b && !s.strobesAsserted then showStrobes (some h) s else s := by
  cases b <;> simp [State.onArrival, hc]
  split <;> simp_all

/-! ### The group arbiter -/

theorem passToken_free {g : Group} {s : State} (h : (s.group g).waiters = []) :
    passToken g s = s.setGroup g { holder := none, waiters := [] } := by simp [passToken, h]

theorem passToken_grant {g : Group} {s : State} {w : Chan} {rest : List Chan}
    (h : (s.group g).waiters = w :: rest) :
    passToken g s = deliverGrant w (s.setGroup g { holder := some w, waiters := rest }) := by
  simp [passToken, h]

/-- Everything a grant can do to the machine of the new holder (R43, R62). -/
theorem deliverGrant_cases (c : Chan) (s : State) :
    (∃ d q, (s.chan c).desc = some d ∧ (s.chan c).requested = some q ∧
      ((∃ p, d.kind = .hold p ∧ deliverGrant c s = enterHolding c q s) ∨
        ∃ p, d.kind = .train p ∧ deliverGrant c s = enterMark c p q.toNat s)) ∨
    ((s.chan c).desc = none ∨ (s.chan c).requested = none) ∧ deliverGrant c s = s := by
  unfold deliverGrant
  split
  · rename_i d q hd hq
    refine .inl ⟨d, q, hd, hq, ?_⟩
    split
    · rename_i p hp; exact .inl ⟨p, hp, rfl⟩
    · rename_i p hp; exact .inr ⟨p, hp, rfl⟩
  · rename_i hn
    refine .inr ⟨?_, rfl⟩
    cases hd : (s.chan c).desc <;> cases hq : (s.chan c).requested <;> simp_all

theorem releaseToken_holder {c : Chan} {g : Group} {s : State} (hg : s.groupOf c = some g)
    (hh : (s.group g).holder = some c) : releaseToken c s = passToken g s := by
  simp [releaseToken, hg, hh]

theorem releaseToken_other {c : Chan} {s : State}
    (h : ∀ g, s.groupOf c = some g → (s.group g).holder ≠ some c) : releaseToken c s = s := by
  unfold releaseToken
  split
  · rfl
  · rename_i g hg; simp [h g hg]

/-! ### The channel queues -/

/-- Everything the examination of a write can do (R21). -/
theorem examine_cases (c : Chan) (d : Descriptor) (v : Byte) (o : Origin) (s : State) :
    (decodeWrite d.kind v o = .undefinedData ∧
      examine c d v o s = (.refused, recordChannel .badData c v s)) ∨
    (decodeWrite d.kind v o = .abort ∧ examine c d v o s = (.aborted, abortTrain c d s)) ∨
    ∃ e, decodeWrite d.kind v o = .entry e ∧
      ((absorbs d.kind (s.chan c) v = true ∧ examine c d v o s = (.absorbed, s)) ∨
        (absorbs d.kind (s.chan c) v = false ∧ (s.chan c).queue.length < 8 ∧
          examine c d v o s = (.appended, appendEntry c e s)) ∨
        (absorbs d.kind (s.chan c) v = false ∧ 8 ≤ (s.chan c).queue.length ∧
          examine c d v o s = (.meetsFull e, s))) := by
  unfold examine
  split
  · exact .inl ⟨‹_›, rfl⟩
  · exact .inr (.inl ⟨‹_›, rfl⟩)
  · rename_i e he
    refine .inr (.inr ⟨e, he, ?_⟩)
    cases ha : absorbs d.kind (s.chan c) v
    · by_cases hq : (s.chan c).queue.length < 8
      · exact .inr (.inl ⟨rfl, hq, by simp [Config.queueDepth, hq]⟩)
      · exact .inr (.inr ⟨rfl, by omega, by simp [Config.queueDepth, hq]⟩)
    · exact .inl ⟨rfl, by simp⟩

/-- A held write is examined again only for its own channel, with room in the queue (R29). -/
theorem reexamine_cases (c : Chan) (s : State) :
    reexamine c s = s ∨
      ∃ h d, s.port.held = some h ∧ (s.chan c).desc = some d ∧ s.port.state = .stalled ∧
        h.channel = c ∧ (s.chan c).queue.length < 8 ∧
        reexamine c s = answerHost .normal none (examine c d h.data .host s).2 := by
  unfold reexamine
  split
  · rename_i h d hh hd
    split
    · rename_i hc
      exact .inr ⟨h, d, hh, hd, hc.1, hc.2.1, hc.2.2, rfl⟩
    · exact .inl rfl
  · exact .inl rfl

/-! ### The cadence machines -/

/-- Everything an event of a HOLD channel can do: nothing, or its body and the arbiter's choice. -/
theorem onHold_cases (c : Chan) (p : Channel → Bool) (body : Descriptor → State → State) (s : State) :
    onHold c p body s = s ∨
      ∃ d, (s.chan c).holdDesc = some d ∧ s.live = true ∧ s.ctl.mode = .run ∧ p (s.chan c) = true ∧
        onHold c p body s = arbitrate (body d s) := by
  unfold onHold
  split
  · exact .inl rfl
  · rename_i d hd
    unfold State.onEvent
    split
    · rename_i h
      simp only [Bool.and_eq_true, beq_iff_eq] at h
      exact .inr ⟨d, hd, h.1, h.2.1, h.2.2, rfl⟩
    · exact .inl rfl

/-- Everything an event of a TRAIN channel can do: nothing, or its body and the arbiter's choice. -/
theorem onTrain_cases (c : Chan) (q : Channel → Bool) (body : Descriptor → TrainPart → State → State)
    (s : State) :
    onTrain c q body s = s ∨
      ∃ d p, (s.chan c).trainDesc = some (d, p) ∧ s.live = true ∧ s.ctl.mode = .run ∧
        q (s.chan c) = true ∧ onTrain c q body s = arbitrate (body d p s) := by
  unfold onTrain
  split
  · exact .inl rfl
  · rename_i d p hd
    unfold State.onEvent
    split
    · rename_i h
      simp only [Bool.and_eq_true, beq_iff_eq] at h
      exact .inr ⟨d, p, hd, h.1, h.2.1, h.2.2, rfl⟩
    · exact .inl rfl

/-- HELD after a min-hold expiry: the heads taken, and a max-hold expiry that is due then taken at once
(R46, R51). -/
theorem becomeHeld_cases (c : Chan) (d : Descriptor) (s : State) :
    let t := takeHoldHeads c d (modChan c (fun x => { x with state := .held, minHold := none }) s)
    (maxHoldDue (t.chan c) = true ∧ becomeHeld c d s = forceRelease c d t) ∨
      (maxHoldDue (t.chan c) = false ∧ becomeHeld c d s = t) := by
  intro t
  cases h : maxHoldDue (t.chan c) <;> simp [becomeHeld, t, h]

/-! ### Reset -/

/-- The level of RESET# or of VCC changes: only at the release of the hold are inputs taken (R157). -/
theorem endHold_cases (s t : State) :
    (s.heldInReset = true ∧ t.heldInReset = false ∧ endHold s t = takeInputsInReset t) ∨
      ((s.heldInReset = false ∨ t.heldInReset = true) ∧ endHold s t = t) := by
  cases hs : s.heldInReset <;> cases ht : t.heldInReset <;> simp [endHold, hs, ht]

/-! ### Modes -/

theorem noMarks_iff (s : State) :
    s.noMarks = true ↔ ∀ c : Chan, (s.chan c).transitionMark = false := by
  simp only [State.noMarks, List.all_eq_true, Bool.not_eq_true']
  exact ⟨fun h c => h c (mem_allChans c), fun h c _ => h c⟩

/-- Everything the report of the drive engine can do (R142). -/
theorem transitionReport_cases (s : State) :
    (s.noMarks = true ∧ s.ctl.mode = .enteringRun ∧ transitionReport s = completeRun s) ∨
    (s.noMarks = true ∧ s.ctl.mode = .enteringSafe ∧ transitionReport s = completeSafe s) ∨
    (s.noMarks = true ∧ s.ctl.mode = .enteringConfig ∧ transitionReport s = completeConfig s) ∨
    (s.noMarks = false ∨ s.ctl.mode.isTransition = false) ∧ transitionReport s = s := by
  unfold transitionReport
  cases hn : s.noMarks <;> cases hm : s.ctl.mode <;> simp [Mode.isTransition]

theorem transitionReport_marked {s : State} {c : Chan} (h : (s.chan c).transitionMark = true) :
    transitionReport s = s := by
  have : s.noMarks = false := by
    rw [Bool.eq_false_iff]; intro hn
    have := (noMarks_iff s).mp hn c
    simp [h] at this
  simp [transitionReport, this]

theorem requestTransitionDrives_chan (f : Descriptor → Byte) (s : State) (k : Chan) :
    (requestTransitionDrives f s).chan k =
      match (s.chan k).desc with
      | some d =>
        if (s.chan k).state = .fault then s.chan k
        else { s.chan k with slot := some (f d), transitionMark := true }
      | none => s.chan k :=
  mapChans_chan s k _

end Sys2Proof.Machine
end

