-- ==== Sys2Proof/Tests/Slice0.lean ====
section
/-! SUPPORT. Tests of the model on the spec's worked sequences and tables, one command each, the smoke of
the well-formedness check, and for every statement with hypotheses a concrete state that meets them
(`witness_<the statement's name>`). Expected values are the spec's, cited by rule or section. -/

set_option maxRecDepth 8000

namespace Sys2Proof.Tests

open Sys2Proof.Machine

/-! ### Small states -/

/-- The state a command leaves. -/
def after (i : Instr) (s : State) : State :=
  match exec i s with
  | .next t => t
  | .fault _ => s
  | .refused _ => s

/-- The state right after reset, in another mode, with the settings of section 12.1. -/
def inMode (m : Mode) : State :=
  { State.reset with
    ctl := { ModeControl.reset with
      mode := m, heartbeatAddress := 0x0F0000, heartbeatTimeout := 1000 } }

/-- An open transaction in phase REQUEST. -/
def listen (s : State) : State :=
  { s with
    pins := { s.pins with mcsLow := true }, mgmt := { MgmtPort.reset with phase := .request } }

/-- Channel 3 of section 1.7. -/
def holdD : Descriptor where
  target := 0x080010
  kind := .hold { minHold := 2000, maxHold := 0 }
  safe := 0
  rest := 0
  gap := 500
  group := some 0
  policy := .stall
  view := .commanded
  feedback := some { senseBit := 0, invert := false, settleTime := 50 }

/-- Channel 4 of section 1.7. -/
def trainD : Descriptor where
  target := 0x080011
  kind := .train { markValue := 1, markTime := 200, spaceTime := 300, pauseUnit := 100 }
  safe := 0
  rest := 0
  gap := 300
  group := some 0
  policy := .discard
  view := .commanded
  feedback := none

/-- Channel 7 of section 3.11: ungrouped, min hold and max hold 200 ms, no gap. -/
def freeHoldD : Descriptor :=
  { holdD with
    target := 0x080012, kind := .hold { minHold := 200, maxHold := 200 }, gap := 0, group := none
    policy := .discard, feedback := none }

/-- An ungrouped TRAIN channel. -/
def freeTrainD : Descriptor := { trainD with target := 0x080013, group := none }

/-- The comparison of a load that follows a driven value. -/
def agreeing (high : Bool) : Comparison :=
  { phase := .agree, expected := some high, settle := none, filter := none }

/-- A channel with a descriptor in a state at a target value that has been driven. -/
def chanOn (d : Descriptor) (st : ChanState) (v : Byte) : Channel :=
  { Channel.empty with
    desc := some d, state := st, target := some v, driven := some v
    cmp := d.feedback.map fun f => agreeing (expectedLevel f v) }

/-- Channels 3, 4, 7 and 8 of one mode, with the token of group 1 and its waiters. -/
def board (m : Mode) (x3 x4 x7 x8 : Channel) (g : GroupState) : State :=
  (((((inMode m).setChan 3 x3).setChan 4 x4).setChan 7 x7).setChan 8 x8).setGroup 0 g

/-- Every channel of `board` SAFED, as in CONFIG. -/
def configBoard : State :=
  board .config (chanOn holdD .safed 0) (chanOn trainD .safed 0) (chanOn freeHoldD .safed 0)
    (chanOn freeTrainD .safed 0) GroupState.free

/-- Every channel of `board` SAFED, in another mode. -/
def safedBoard (m : Mode) : State := { configBoard with ctl := (inMode m).ctl }

/-- Every channel of `board` RESTING in RUN. -/
def restBoard : State :=
  board .run (chanOn holdD .resting 0) (chanOn trainD .resting 0) (chanOn freeHoldD .resting 0)
    (chanOn freeTrainD .resting 0) GroupState.free

/-- Channel 3 changed. -/
def with3 (x : Channel) (s : State) : State := s.setChan 3 x

/-- A HOLD entry, a count and a pause from the host. -/
def setE (v : Byte) : Entry := { kind := .set, operand := v, origin := .host }
def trainE (v : Byte) : Entry := { kind := .train, operand := v, origin := .host }
def pauseE (v : Byte) : Entry := { kind := .pause, operand := v, origin := .host }

/-- The full queue of section 2.7. -/
def fullQueue : List Entry := [setE 7, setE 0, setE 7, setE 0, setE 7, setE 0, setE 7, setE 0]

/-- Channel 3 HOLDING at 05h with its min-hold timer running. -/
def holding3 : Channel := { chanOn holdD .holding 5 with minHold := some 1200 }

/-- Channel 4 WAITING with requested count 2. -/
def waiting4 : Channel := { chanOn trainD .waiting 0 with requested := some 2 }

/-- Channel 8 in the second of its marks. -/
def mark8 : Channel :=
  { chanOn freeTrainD .mark 1 with marks := 3, trainCount := 4, markTimer := some 90 }

/-- Channel 8 in a space. -/
def space8 : Channel :=
  { chanOn freeTrainD .space 0 with marks := 3, trainCount := 4, spaceTimer := some 90 }

/-- Channel 7 in FAULT. -/
def fault7 : Channel :=
  { chanOn freeHoldD .fault 0 with lastFault := some { cause := .driveTimeout, timestamp := 7 } }

/-- A RUN with channel 3 HOLDING and holding the token, 4 WAITING for it, 7 in FAULT and 8 in a mark. -/
def busyRun : State := board .run holding3 waiting4 fault7 mark8 { holder := some 3, waiters := [4] }

/-- The same with channel 8 in a space. -/
def spaceRun : State := busyRun.setChan 8 space8

/-- A drive write in flight for a channel of the board. -/
def driving (c : Chan) (a : Addr) (v : Byte) (s : State) : State :=
  { s with
    down :=
      { bus := .drive { channel := c, address := a, value := v, attached := true }
        burst := 1, timer := some 1000 } }

/-- A drive write in flight that has become detached. -/
def drivingDetached (c : Chan) (a : Addr) (v : Byte) (s : State) : State :=
  { s with
    down :=
      { bus := .drive { channel := c, address := a, value := v, attached := false }
        burst := 1, timer := some 1000 } }

/-- The port with a pass-through cycle. -/
def passPort (st : PortState) (kind : CycleKind) (a : Addr) (data : Option Byte) (d : HostDecode) :
    HostPort :=
  { HostPort.idle with
    state := st, cycle := some { kind, address := a, data, decode := some d, ending := none, answer := none } }

/-- A pass-through read on the downstream bus. -/
def passing (a : Addr) (s : State) : State :=
  { s with
    port := passPort .passOn .read a none .pass
    down := { bus := .pass, burst := 0, timer := some 1000 } }

/-- A heartbeat write on the downstream bus (section 7.8, step 8). -/
def beating (s : State) : State :=
  { s with
    port := passPort .passOn .write 0x0F0000 (some 0x3C) .passHeartbeat
    down := { bus := .pass, burst := 0, timer := some 1000 } }

/-- A host write of `v` held on the queue of channel `c` under the stall. -/
def stalled (c : Chan) (v : Byte) (s : State) : State :=
  { s with
    port :=
      { state := .stalled
        cycle := some
          { kind := .write, address := 0x080010, data := some v, decode := some (.governed c)
            ending := none, answer := none }
        stallTimer := some 50, held := some { channel := c, data := v, entry := setE v }
        released := false } }

/-- An event record of section 10.7. -/
def recordOf (n : Nat) : EventRecord :=
  { sequence := BitVec.ofNat 16 n, timestamp := 0, kind := .badData, channel := some 4
    value := some 0x9A, address := none, cause := none }

/-- An event queue of `n` records from sequence 200 on (section 10.7). -/
def eventsHeld (n : Nat) (s : State) : State :=
  { s with
    ev := { s.ev with
      queue := (List.range n).map fun i => recordOf (200 + i), sequence := BitVec.ofNat 16 (200 + n) } }

/-! ### Well-formedness: what it refuses (R174, R176) -/

/-- Forty-one bytes do not fit a frame that is read further. -/
def longPayload : List Byte := List.replicate 41 0

theorem test_payload_of_41_is_refused :
    (∀ i ∈ [Instr.getInfo longPayload, .getStatus longPayload, .setDevice longPayload,
      .setChannel longPayload, .clearChannel longPayload, .getChannel longPayload, .start longPayload,
      .stop longPayload, .enterSafe longPayload, .resume longPayload, .clearFault longPayload,
      .purge longPayload, .queueWrite longPayload, .readEvents longPayload, .readFlags longPayload,
      .setEnables longPayload, .resetDevice longPayload], i.wellFormed = false) ∧
    (Instr.getInfo (longPayload.drop 1)).wellFormed = true := by decide

/-- Bytes no test refuses, an incomplete frame, and a frame with a byte too many are no BAD_COMMAND. -/
theorem test_badCommand_frames :
    (Instr.badCommand [0x01, 0x00, 0x15]).wellFormed = false ∧
    (Instr.badCommand [0x01]).wellFormed = false ∧
    (Instr.badCommand [0x20, 0x00, 0x00, 0x00]).wellFormed = false ∧
    (Instr.badCommand [0x20, 0x00, 0x00]).wellFormed = true := by decide

/-! ### Frames and layouts -/

/-- The CRC table of R175. -/
theorem test_crc_table :
    crc8 [0x01, 0x00] = 0x15 ∧ crc8 [0x02, 0x00] = 0x2A ∧ crc8 [0x20, 0x00] = 0xAE ∧
    crc8 [0x31, 0x01, 0x03] = 0x96 ∧ crc8 [0x00, 0x00] = 0x00 ∧ crc8 [0x10, 0x00] = 0x57 := by decide

/-- Requests of section 11.6 spell their commands; START with a wrong CRC is refused. -/
theorem test_requests_of_the_session :
    decodeRequest [0x01, 0x00, 0x15] = some (.getInfo []) ∧
    decodeRequest [0x20, 0x00, 0xAE] = some (.start []) ∧
    decodeRequest [0x31, 0x01, 0x03, 0x96] = some (.purge [0x03]) ∧
    decodeRequest [0x20, 0x00, 0x00] = some (.badCommand [0x20, 0x00, 0x00]) ∧
    decodeRequest [0x20, 0x00] = none ∧ decodeRequest [0x20] = none := by decide

/-- The response frames of section 11.6: BAD_CRC, ACCEPTED and OK without payload. -/
theorem test_response_frames :
    responseFrame { status := .badCrc, payload := [] } = [0xA5, 0x10, 0x00, 0x57] ∧
    responseFrame { status := .accepted, payload := [] } = [0xA5, 0x01, 0x00, 0x15] ∧
    responseFrame { status := .ok, payload := [] } = [0xA5, 0x00, 0x00, 0x00] := by decide

/-- The SET_CHANNEL payload of section 1.7, channel 3. -/
def set3 : List Byte :=
  [0x03, 0x08, 0x00, 0x10, 0x00, 0x00, 0x00, 0x01, 0xF4, 0x01, 0x00, 0x01, 0x07, 0xD0, 0x00, 0x00, 0, 0, 0,
   0x01, 0x00, 0x00, 0x32]

/-- A TRAIN payload of channel 4, by its gap and its space time. -/
def set4 (gap space : Half) : List Byte :=
  [0x04, 0x08, 0x00, 0x11, 0x01, 0x00, 0x00] ++ halfBytes gap ++ [0x01, 0x01, 0x01, 0x01, 0x00, 0xC8] ++
    halfBytes space ++ [0x00, 0x64, 0, 0, 0, 0]

/-- A HOLD payload of channel 3 with min hold 300 ms and max hold 200 ms. -/
def set3Short : List Byte := ((((set3.set 12 0x01).set 13 0x2C).set 14 0x00).set 15 0xC8)

/-- The descriptor bytes of section 1.7 spell its descriptor. -/
theorem test_descriptor_of_channel_3 :
    descriptorFailure (set3.drop 1) = none ∧ descriptorOf (set3.drop 1) = holdD ∧
    descriptorOf ((set4 300 300).drop 1) = trainD := by decide

/-- The field indexes of the example after R7. -/
theorem test_field_index_examples :
    descriptorFailure ((set4 5 20).drop 1) = some 5 ∧ descriptorFailure ((set4 5 2000).drop 1) = some 13 ∧
    descriptorFailure ((set4 0 20).drop 1) = some 5 ∧ descriptorFailure (set3Short.drop 1) = some 10 ∧
    descriptorFailure ((set4 250 300).drop 1) = some 5 := by decide

/-- The table gives no row any bits, so a word spells no command. -/
theorem test_no_word_spells_a_command :
    decodeTableWord 0 0 = none ∧ State.reset.withFetchWord 8 1 = State.reset := by decide

/-! ### Worked sequences, one command each -/

/-- Session of section 11.6: GET_INFO, SET_DEVICE, START refused while SAFE# is low, PURGE by mode. -/
theorem test_session_responses :
    (after (.getInfo []) (listen State.reset)).mgmt.response =
      some { status := .ok, payload := [0x55, 0x01, 0x10, 0x08, 0x04, 0x20] } ∧
    (after (.setDevice [0x0F, 0x00, 0x00, 0x03, 0xE8, 50]) (listen State.reset)).ctl.heartbeatTimeout =
      1000 ∧
    (after (.purge [0x03]) (listen configBoard)).mgmt.response =
      some { status := .wrongMode, payload := [] } ∧
    (after (.purge [0x03]) (listen (safedBoard .enteringRun))).mgmt.response =
      some { status := .busy, payload := [] } := by decide

/-- Section 11.6, transaction 14: READ_FLAGS returns 6000h and clears the flags. -/
theorem test_readFlags_word :
    let s := listen { State.reset with ev := { EventUnit.reset with flags := 0x6000 } }
    (after (.readFlags []) s).mgmt.response = some { status := .ok, payload := [0x60, 0x00] } ∧
    (after (.readFlags []) s).ev.flags = 0 := by decide

/-- Section 11.6, transaction 5: an accepted SET_CHANNEL issues its safe drive; one behind a pass-through
read of its address is held back, and accepted when the read ends. -/
theorem test_setChannel_accepted_and_held_back :
    let s := listen (inMode .config)
    let t := after (.setChannel set3) (passing 0x080010 s)
    (after (.setChannel set3) s).down.bus =
      .drive { channel := 3, address := 0x080010, value := 0, attached := true } ∧
    (t.chan 3).state = .unconfigured ∧ t.mgmt.response = none ∧
    ((after (.passThroughCompletion 0x77) t).chan 3).state = .safed ∧
    (after (.passThroughCompletion 0x77) t).hd = some 0x77 := by decide

/-- Section 9.12, steps 1 to 3: START requests rest drives with marks, and SAFE# falling turns it. -/
theorem test_start_interrupted_by_safe_line :
    let s := after (.start []) (listen configBoard)
    let t := after .safeLineFall (after .driveCompletion s)
    s.ctl.mode = .enteringRun ∧ s.mgmt.response = some { status := .accepted, payload := [] } ∧
    (s.chan 4).slot = some 0 ∧ (s.chan 3).slot = none ∧ (s.chan 3).transitionMark = true ∧
    t.ctl.mode = .enteringSafe ∧ t.ctl.lastSafeCause = some .safeLine ∧
    (t.chan 3).slot = some 0 ∧ (t.chan 3).transitionMark = true := by decide

/-- Section 9.12, step 11: the last drive of ENTERING_RUN makes the mode RUN. -/
theorem test_last_drive_reaches_run :
    let s := driving 4 0x080011 0
      (((inMode .enteringRun).setChan 3 (chanOn holdD .safed 0)).setChan 4
        { chanOn trainD .safed 0 with transitionMark := true })
    let t := after .driveCompletion s
    t.ctl.mode = .run ∧ (t.chan 3).state = .resting ∧ heartbeatRemaining t = 1000 ∧
    t.ev.queue.map (·.value) = [some 2] := by decide

/-- Section 2.7: a write equal to the tail is absorbed, another meets the full queue and is held, and PURGE
ends the stall with the held write absorbed. -/
theorem test_full_queue_stall_and_purge :
    let s := with3 { holding3 with queue := fullQueue } restBoard
    let t := after (.governedWrite 0x080010 0x05) s
    let u := after (.purge [0x03]) (listen t)
    (after (.governedWrite 0x080010 0x00) s).port.state = .ending ∧
    t.port.state = .stalled ∧ t.hwait = true ∧
    u.port.state = .ending ∧ (u.chan 3).queue = [] ∧ u.ev.queue.map (·.value) = [some 8] := by decide

/-- Section 2.8: the COMMANDED count of a waiting channel and of its queue, and the ABORT that ends both. -/
theorem test_train_queue_behind_a_held_token :
    let s := busyRun.setChan 4 { waiting4 with
      requested := some 3, queue := [pauseE 2, trainE 2, trainE 2] }
    let t := after (.governedWrite 0x080011 0x00) s
    (after (.governedRead 0x080011) s).hd = some 7 ∧
    (after (.governedWrite 0x080011 0x9A) s).ev.queue.map (·.kind) = [.badData] ∧
    (t.chan 4).state = .resting ∧ (t.chan 4).queue = [] ∧ (t.group 0).waiters = [] ∧
    t.ev.queue.map (fun r => (r.kind, r.value)) = [(.trainAborted, some 3)] := by decide

/-- Section 3.10: min-hold expiry takes the waiting release; the recovery end takes the next head. -/
theorem test_hold_released_early :
    let s := with3 { holding3 with minHold := some 0, queue := [setE 0] } busyRun
    let t := after (.minHoldExpiry 3) s
    let r := board .run { chanOn holdD .recovering 0 with recovery := some 0, queue := [setE 5] }
      (chanOn trainD .resting 0) fault7 mark8 { holder := some 3, waiters := [] }
    (t.chan 3).state = .recovering ∧ (t.chan 3).target = some 0 ∧ (t.group 0).holder = some 3 ∧
    ((after (.holdRecoveryEnd 3) r).chan 3).state = .holding ∧
    ((after (.holdRecoveryEnd 3) r).chan 3).target = some 5 := by decide

/-- Section 3.11: max hold equal to min hold, and the rest drive that ends a recovery without gap. -/
theorem test_max_hold_equal_to_min_hold :
    let s := restBoard.setChan 7 { chanOn freeHoldD .held 0x0F with maxHold := some 0 }
    let t := after (.maxHoldExpiry 7) s
    (t.chan 7).state = .recovering ∧
    t.ev.queue.map (fun r => (r.kind, r.channel, r.value)) = [(.holdExpired, some 7, some 0x0F)] ∧
    ((after .driveCompletion t).chan 7).state = .resting := by decide

/-- Section 4.8: mark expiry with marks left, and the last one with TRAIN_DONE. -/
theorem test_mark_expiry :
    let s := busyRun.setChan 8 { mark8 with markTimer := some 0 }
    let l := busyRun.setChan 8 { mark8 with markTimer := some 0, marks := 1, trainCount := 3 }
    ((after (.markExpiry 8) s).chan 8).state = .space ∧ ((after (.markExpiry 8) s).chan 8).marks = 2 ∧
    ((after (.markExpiry 8) l).chan 8).state = .recovering ∧
    (after (.markExpiry 8) l).ev.queue.map (fun r => (r.kind, r.value)) = [(.trainDone, some 3)] := by
  decide

/-- Section 4.8: the recovery end takes the pause, which runs two units of 100 ms. -/
theorem test_recovery_end_takes_the_pause :
    let s := board .run (chanOn holdD .resting 0)
      { chanOn trainD .recovering 0 with recovery := some 0, queue := [pauseE 2, trainE 2] } fault7 mark8
      { holder := some 4, waiters := [] }
    let t := after (.trainRecoveryEnd 4) s
    (t.chan 4).state = .pausing ∧ (t.chan 4).pauseTimer = some 201 ∧ (t.group 0).holder = none ∧
    (t.chan 4).queue = [trainE 2] := by decide

/-- Section 4.9: an ABORT in a mark counts the marks after it, and a second one counts none. -/
theorem test_abort_in_a_mark :
    let s := busyRun.setChan 8 { mark8 with marks := 4, queue := [trainE 2] }
    let t := after (.governedWrite 0x080013 0x00) s
    (t.chan 8).abortPending = true ∧ t.ev.queue.map (·.value) = [some 3] ∧
    (after (.governedWrite 0x080013 0x00) (after .hostCycleEnd t)).ev.queue.map (·.value) =
      [some 3, some 0] := by decide

/-- Section 4.9: an ABORT in a space starts the recovery timer at once. -/
theorem test_abort_in_a_space :
    let t := after (.governedWrite 0x080013 0x00) spaceRun
    (t.chan 8).state = .recovering ∧ (t.chan 8).recovery = some 301 ∧
    t.ev.queue.map (·.value) = [some 3] := by decide

/-- Section 5.8, step 8: the recovery end passes the token straight to the head waiter. -/
theorem test_token_passes_to_the_head_waiter :
    let s := with3 { chanOn holdD .recovering 0 with recovery := some 0 } busyRun
    let t := after (.holdRecoveryEnd 3) s
    (t.group 0).holder = some 4 ∧ (t.group 0).waiters = [] ∧ (t.chan 4).state = .mark ∧
    (t.chan 4).marks = 2 ∧ (t.chan 3).state = .resting := by decide

/-- Section 6.6, steps 7 and 10: a timeout faults its channel and retries; after four drive writes the
waiting pass-through cycle goes first. -/
theorem test_drive_timeout_and_burst :
    let s := driving 7 0x080012 5 (restBoard.setChan 7 { chanOn freeHoldD .holding 5 with driven := some 0 })
    let t := after .driveTimeout s
    let p := passPort .passWait .write 0x0F0000 (some 1) .passHeartbeat
    let q := driving 8 0x080013 1 { restBoard.setChan 7 { chanOn freeHoldD .holding 5 with slot := some 5 } with
      port := p }
    (t.chan 7).state = .fault ∧ (t.chan 7).driven = none ∧ t.down.burst = 2 ∧
    t.down.bus = .drive { channel := 7, address := 0x080012, value := 0, attached := true } ∧
    (after .driveCompletion { q with down := { q.down with burst := 4 } }).down.bus = .pass := by decide

/-- Section 7.8, steps 5 and 9: a stall that times out, and a heartbeat write that completes. -/
theorem test_stall_timeout_and_heartbeat :
    let s := stalled 3 0x07 (with3 { holding3 with queue := fullQueue } restBoard)
    let t := after .stallTimeout s
    let h := beating { restBoard with ctl := { restBoard.ctl with heartbeat := some 1 } }
    t.herr = true ∧ t.hwait = false ∧ t.ev.queue.map (·.kind) = [.stallTimeout] ∧
    (after (.passThroughCompletion 0) h).ctl.heartbeat = some 1001 := by decide

/-- Section 7.8, step 2: the head taken at min-hold expiry frees the slot and ends the stall. -/
theorem test_freed_slot_ends_the_stall :
    let s := stalled 3 0x05 (with3 { holding3 with queue := fullQueue, minHold := some 0 } restBoard)
    let t := after (.minHoldExpiry 3) s
    t.port.state = .ending ∧ t.herr = false ∧ (t.chan 3).target = some 7 ∧
    (t.chan 3).queue = fullQueue.tail ++ [setE 5] := by decide

/-- Section 8.8: the comparison of the relay that drops out. -/
theorem test_relay_drops_out :
    let f : FeedbackPart := { senseBit := 0, invert := false, settleTime := 50 }
    ((agreeing false).completion f 5).phase = .settling ∧ ((agreeing true).sensed false).phase = .filtering ∧
    ((agreeing true).sensed false).filter = some 3 ∧
    (((agreeing true).sensed false).sensed true).phase = .agree := by decide

/-- Section 8.8: the confirmed mismatch faults channel 3, and channel 4 begins its train at once. -/
theorem test_confirmed_mismatch :
    let x := { holding3 with
      cmp := some { phase := .filtering, expected := some true, settle := none, filter := some 0 } }
    let t := after (.filterExpiry 3) (with3 x busyRun)
    (t.chan 3).state = .fault ∧ (t.chan 4).state = .mark ∧ (t.group 0).holder = some 4 ∧
    t.ev.queue.map (fun r => (r.kind, r.channel, r.value)) = [(.feedbackFault, some 3, some 5)] ∧
    t.down.bus = .drive { channel := 3, address := 0x080010, value := 0, attached := true } := by decide

/-- Section 8.8, at 2600: CLEAR_FAULT in RUN. -/
theorem test_clear_fault_in_run :
    let t := after (.clearFault [0x07]) (listen busyRun)
    (t.chan 7).state = .resting ∧
    t.down.bus = .drive { channel := 7, address := 0x080012, value := 0, attached := true } := by decide

/-- Section 10.7, step 1: the first record takes the last place, the second is dropped, and MINT# follows the
enabled flag 8. -/
theorem test_overflow :
    let s := eventsHeld 31 { State.reset with ev := { EventUnit.reset with
      flags := 0x000A, enables := 0x0301 } }
    let t := record .blockedWrite (some 3) (some 7) none none
      (record .feedbackFault (some 3) (some 5) none none s)
    t.ev.queue.length = 32 ∧ t.ev.sequence = 233 ∧ t.ev.flags = 0x010B ∧ t.ev.mint = true := by decide

/-- Section 10.7, step 4: READ_EVENTS removes eight records of thirty-two. -/
theorem test_read_events :
    let t := after (.readEvents [0x08]) (listen (eventsHeld 32 State.reset))
    t.ev.queue.length = 24 ∧ (t.ev.queue.head?).map (·.sequence) = some 208 ∧
    t.mgmt.response.map (·.payload.length) = some 113 := by decide

/-- A timer of 2 units expires at the third tick after its start (R155). -/
theorem test_timer_ticks :
    startTimer 2 = some 3 ∧ isDue (tickTimer (tickTimer (startTimer 2))) = false ∧
    isDue (tickTimer (tickTimer (tickTimer (startTimer 2)))) = true := by decide

/-- A min-hold and a max-hold of one tick: the max-hold expiry comes at once after the other, so that a write
of rest after it is absorbed by the intended value (R22, R51). -/
theorem test_expiries_of_one_tick :
    let s := restBoard.setChan 7 { chanOn freeHoldD .holding 5 with minHold := some 0, maxHold := some 0 }
    let t := after (.minHoldExpiry 7) s
    (t.chan 7).state = .recovering ∧ t.ev.queue.map (·.kind) = [.holdExpired] ∧
    ((after (.governedWrite 0x080012 0x00) t).chan 7).queue = [] := by decide

/-- A mark whose last tick has come ends before the tick after it (R65, R155). -/
theorem test_due_expiry_before_the_next_tick :
    let s := busyRun.setChan 8 { mark8 with markTimer := some 0, marks := 2 }
    let t := after .timestampTick s
    (t.chan 8).state = .space ∧ (t.chan 8).marks = 1 ∧ t.ctl.timestamp = 1 ∧
    (t.chan 3).minHold = some 1199 := by decide

/-- A head appended at rest and taken by no command is taken before the next tick, of either kind; so is a write
held on the full queue of a WAITING channel that its heads have emptied (R29, R30, R38, R59). -/
theorem test_appended_head_before_the_next_tick :
    (let t := after .timestampTick (restBoard.setChan 7 { chanOn freeHoldD .resting 0 with queue := [setE 5] });
      (t.chan 7).state = .holding ∧ (t.chan 7).queue = []) ∧
    (let t := after .timestampTick
        (restBoard.setChan 8 { chanOn freeTrainD .resting 0 with queue := [trainE 2, trainE 3] });
      (t.chan 8).state = .mark ∧ (t.chan 8).queue = [trainE 3]) ∧
    (let x := { chanOn holdD .waiting 0 with requested := some 5, queue := fullQueue.map fun e =>
        { e with operand := if e.operand = 0 then 6 else 7 } };
      let s := (stalled 3 9 (with3 x restBoard)).setGroup 0 { holder := some 4, waiters := [3] };
      let t := after .timestampTick s
      (t.chan 3).requested = some 9 ∧ (t.chan 3).queue = [] ∧ t.port.state = .ending) := by decide

/-- RESET# resets at its assertion, with CLK running and stopped (R157). -/
theorem test_reset_at_the_assertion :
    (after .resetAssert busyRun).channels = State.reset.channels ∧
    (after .resetAssert busyRun).ctl = State.reset.ctl ∧
    (let s := after .resetRelease (after .resetAssert (after .clkStops busyRun));
      s.channels = State.reset.channels ∧ s.ctl = State.reset.ctl) := by decide

/-- CLK stopped freezes the part; on return SAFE# is taken at its level, and a cycle whose strobes were asserted
meanwhile arrives (R195). The order of the two is free, so the test holds for each. -/
theorem test_inputs_taken_when_clk_runs_again :
    let s := after (.governedRead 0x080010) (after .safeLineFall (after .clkStops busyRun))
    s.ctl.mode = .run ∧ s.port.state = .idle ∧
    ∀ order : Fin 6,
      let t := takeInputs order (setClock true s)
      t.ctl.lastSafeCause = some .safeLine ∧ t.port.state = .ending ∧ t.pins.strobes = none := by decide

/-- A host cycle that ends and begins again while CLK is stopped is no end of the cycle held (R124, R195). -/
theorem test_strobes_are_levels :
    let s := after (.hostCycleEnd) (after .clkStops (passing 0x080014 busyRun))
    let t := after (.passThroughArrival 0x080014 none) s
    s.pins.strobes = some none ∧ t.pins.strobes = some (some (.read 0x080014)) ∧
    ∀ order : Fin 6,
      (takeInputs order (setClock true s)).port.released = true ∧
      (takeInputs order (setClock true t)).port.released = false ∧
      (takeInputs order (setClock true t)).port.state = .passOn := by decide

/-! ### States that meet the hypotheses of the statements -/

/-- Channel 7 one tick before its min-hold expiry. -/
def lastTick : Channel := { chanOn freeHoldD .holding 0x0F with minHold := some 1 }

/-- `busyRun` with channel 7 one tick before its min-hold expiry. -/
def holdRun : State := busyRun.setChan 7 lastTick

theorem witness_StepTakesFrontCommand :
    { State.reset with pending := [.timestampTick, .clkStops] }.pending = .timestampTick :: [.clkStops] ∧
    State.reset.pending = [] := by decide

theorem sound_busyRun : Sound busyRun :=
  ⟨⟨by decide, by decide, by decide, by decide, by decide, by decide, by decide, by decide⟩, by decide,
   by decide, by decide, by decide, by decide, by decide, by decide, by decide, by decide, by decide,
   by decide, by decide, by decide, by decide, by decide⟩

theorem sound_spaceRun : Sound spaceRun :=
  ⟨⟨by decide, by decide, by decide, by decide, by decide, by decide, by decide, by decide⟩, by decide,
   by decide, by decide, by decide, by decide, by decide, by decide, by decide, by decide, by decide,
   by decide, by decide, by decide, by decide, by decide⟩

theorem sound_holdRun : Sound holdRun :=
  ⟨⟨by decide, by decide, by decide, by decide, by decide, by decide, by decide, by decide⟩, by decide,
   by decide, by decide, by decide, by decide, by decide, by decide, by decide, by decide, by decide,
   by decide, by decide, by decide, by decide, by decide⟩

theorem sound_passing : Sound (passing 0x080014 busyRun) :=
  ⟨⟨by decide, by decide, by decide, by decide, by decide, by decide, by decide, by decide⟩, by decide,
   by decide, by decide, by decide, by decide, by decide, by decide, by decide, by decide, by decide,
   by decide, by decide, by decide, by decide, by decide⟩

theorem sound_driving : Sound (driving 8 0x080013 1 busyRun) :=
  ⟨⟨by decide, by decide, by decide, by decide, by decide, by decide, by decide, by decide⟩, by decide,
   by decide, by decide, by decide, by decide, by decide, by decide, by decide, by decide, by decide,
   by decide, by decide, by decide, by decide, by decide⟩

theorem sound_safed : Sound (safedBoard .safe) :=
  ⟨⟨by decide, by decide, by decide, by decide, by decide, by decide, by decide, by decide⟩, by decide,
   by decide, by decide, by decide, by decide, by decide, by decide, by decide, by decide, by decide,
   by decide, by decide, by decide, by decide, by decide⟩

theorem witness_EveryStepKeepsSound :
    Sound busyRun ∧ ∃ t, step busyRun = .next t := ⟨sound_busyRun, busyRun, rfl⟩

/-- The statement's state, with MINT# asserted and with it released. -/
theorem witness_MintFollowsFlagsAndEnables :
    (let s : State := { State.reset with
        ev := { EventUnit.reset with flags := 0x4001, enables := 0x4000, mint := true } };
      (s.ev.mint = true ↔ ∃ n : Fin 15, s.ev.flags.getLsbD n = true ∧ s.ev.enables.getLsbD n = true) ∧
      ∃ t, step s = .next t) ∧
    (let s : State := { State.reset with ev := { EventUnit.reset with flags := 1, enables := 0x4000 } };
      (s.ev.mint = true ↔ ∃ n : Fin 15, s.ev.flags.getLsbD n = true ∧ s.ev.enables.getLsbD n = true) ∧
      ∃ t, step s = .next t) :=
  ⟨⟨by decide, _, rfl⟩, by decide, _, rfl⟩

/-- A queue at its capacity, and a command that takes records from it. -/
theorem witness_EventQueueKeepsItsLaw :
    let s := { listen (eventsHeld 32 busyRun) with pending := [.readEvents [0x08]] }
    s.ev.queue.length ≤ 32 ∧ ∃ t, step s = .next t := ⟨by decide, _, rfl⟩

theorem witness_HeartbeatAndSettingsKeepTheirLaws :
    let s := { busyRun with ctl := { busyRun.ctl with heartbeat := some 1 } }
    (s.ctl.heartbeat.isSome → s.ctl.mode = .run) ∧ SettingsLaw s ∧ ∃ t, step s = .next t :=
  ⟨by decide, by decide, _, rfl⟩

/-- Two members of one group, one of them in a token-holding state. -/
theorem witness_GroupMembersExcludeEachOther :
    Sound busyRun ∧ busyRun.groupOf 3 = some 0 ∧ busyRun.groupOf 4 = some 0 ∧
    (busyRun.chan 3).state.holdsToken = true := ⟨sound_busyRun, by decide⟩

/-- A drive write on the bus, and a pass-through cycle on the bus. -/
theorem witness_GovernedAddressSeesDriveWritesOnly :
    (let s := driving 8 0x080013 1 busyRun;
      Sound s ∧ s.downCycle = some (0x080013, some 1) ∧ (s.governed 0x080013).isSome = true) ∧
    (let s := passing 0x080014 busyRun;
      Sound s ∧ s.port.cycle.isSome = true ∧ s.port.state = .passOn) :=
  ⟨⟨sound_driving, by decide⟩, sound_passing, by decide⟩

/-- START in CONFIG and RESUME in SAFE. -/
theorem witness_OnlyStartAndResumeEnterRun :
    (∃ t, exec (.start []) (listen configBoard) = .next t ∧ (listen configBoard).ctl.mode ≠ .run ∧
      (listen configBoard).ctl.mode ≠ .enteringRun ∧ t.ctl.mode = .enteringRun) ∧
    ∃ t, exec (.resume []) (listen (inMode .safe)) = .next t ∧ (listen (inMode .safe)).ctl.mode ≠ .run ∧
      (listen (inMode .safe)).ctl.mode ≠ .enteringRun ∧ t.ctl.mode = .run :=
  ⟨⟨_, rfl, by decide⟩, _, rfl, by decide⟩

/-- A fault ended by a reset, and one ended by CLEAR_FAULT. -/
theorem witness_FaultIsLeftOnlyByItsExits :
    (∃ t, Sound busyRun ∧ exec .resetAssert busyRun = .next t ∧ (busyRun.chan 7).state = .fault ∧
      (t.chan 7).state ≠ .fault) ∧
    ∃ t, Sound (listen busyRun) ∧ exec (.clearFault [0x07]) (listen busyRun) = .next t ∧
      ((listen busyRun).chan 7).state = .fault ∧ (t.chan 7).state ≠ .fault :=
  ⟨⟨_, sound_busyRun, rfl, by decide⟩, _,
    ⟨⟨by decide, by decide, by decide, by decide, by decide, by decide, by decide, by decide⟩, by decide,
     by decide, by decide, by decide, by decide, by decide, by decide, by decide, by decide, by decide,
     by decide, by decide, by decide, by decide, by decide⟩, rfl, by decide⟩

/-- A hold with one tick to come. -/
theorem witness_MinHoldIsKept :
    ∃ t, Sound holdRun ∧ exec .timestampTick holdRun = .next t ∧ (holdRun.chan 7).state = .holding ∧
      (holdRun.chan 7).minHold = some (0 + 1) ∧ (holdRun.chan 7).slot = none :=
  ⟨_, sound_holdRun, rfl, by decide⟩

/-- A mark that ends in a space, and a space. -/
theorem witness_MarksOfATrainNeverRise :
    (∃ t, Sound busyRun ∧ exec .timestampTick busyRun = .next t ∧ (busyRun.chan 8).state = .mark) ∧
    (∃ t, Sound spaceRun ∧ exec .timestampTick spaceRun = .next t ∧ (spaceRun.chan 8).state = .space) ∧
    ∃ t, exec (.markExpiry 8) (busyRun.setChan 8 { mark8 with markTimer := some 0 }) = .next t ∧
      (t.chan 8).state = .space :=
  ⟨⟨_, sound_busyRun, rfl, by decide⟩, ⟨_, sound_spaceRun, rfl, by decide⟩, _, rfl, by decide⟩

theorem witness_RequestFramesAndCommandsAgree :
    ((Instr.getInfo []).wellFormed = true ∧ encodeRequest (.getInfo []) = some [0x01, 0x00, 0x15]) ∧
    (frameOf [0x20, 0x00, 0xAE, 0xFF] = some [0x20, 0x00, 0xAE] ∧
      decodeRequest [0x20, 0x00, 0xAE, 0xFF] = some (.start [])) ∧
    frameOf [0x20, 0x29] = some [0x20, 0x29] ∧
      decodeRequest [0x20, 0x29] = some (.badCommand [0x20, 0x29]) := by decide

/-- A descriptor of each kind, supervised and not, and bytes that pass and that fail. -/
theorem witness_DescriptorBytesAndDescriptorsAgree :
    DescriptorLegal holdD ∧ DescriptorLegal trainD ∧ descriptorFailure (set3.drop 1) = none ∧
    descriptorFailure ((set4 300 300).drop 1) = none ∧
    descriptorFailure ((set4 5 20).drop 1) = some 5 ∧ holdD.feedback = some ⟨0, false, 50⟩ ∧
    trainD.feedback = none ∧ holdD.kind = .hold ⟨2000, 0⟩ ∧ trainD.kind = .train ⟨1, 200, 300, 100⟩ := by
  decide

/-- A queue with its last place free, and a full one. -/
theorem witness_RecordIsStampedAndStored :
    (eventsHeld 31 State.reset).ev.queue.length < 32 ∧ 32 ≤ (eventsHeld 32 State.reset).ev.queue.length := by
  decide

/-- A channel's pending drive. -/
def pendingDrive (v : Byte) (s : State) : State := s.setChan 7 { s.chan 7 with slot := some v }

/-- A pass-through cycle that waits. -/
def passWaits (burst : Nat) (s : State) : State :=
  { s with
    port := passPort .passWait .read 0x080014 none .pass, down := { s.down with burst := burst } }

/-- One state for each clause: a busy bus; an idle bus with nothing to issue; a waiting cycle with nothing
before it, and with a drive after a burst of four; a drive with a waiting cycle after a burst of three. -/
theorem witness_ArbiterIssuesByTheTable :
    (driving 8 0x080013 1 busyRun).down.bus ≠ .idle ∧
    (busyRun.down.bus = .idle ∧ (∀ c : Chan, (busyRun.chan c).slot = none) ∧
      busyRun.port.state ≠ .passWait) ∧
    (let s := passWaits 0 busyRun;
      s.down.bus = .idle ∧ s.port.state = .passWait ∧ (∀ c : Chan, (s.chan c).slot = none) ∧
        s.live = true) ∧
    (let s := passWaits 4 (pendingDrive 5 restBoard);
      s.down.bus = .idle ∧ s.port.state = .passWait ∧ s.down.burst = 4 ∧ s.live = true) ∧
    (let s := passWaits 3 (pendingDrive 5 restBoard);
      s.down.bus = .idle ∧ (s.chan 7).slot = some 5 ∧ (s.chan 7).desc = some freeHoldD ∧
        (∀ k : Chan, k < 7 → (s.chan k).slot = none) ∧
        ¬ (s.port.state = .passWait ∧ s.down.burst = 4) ∧ s.live = true) := by decide

theorem witness_GetInfoReturnsIdentityBlock : Listening (listen State.reset) := by decide

/-- The status block, a DISARMED and a running heartbeat timer, and the entry to RUN. -/
theorem witness_GetStatusReturnsStatusBlock :
    Listening (listen busyRun) ∧ busyRun.ctl.heartbeat = none ∧
    { busyRun with ctl := { busyRun.ctl with heartbeat := some 1 } }.ctl.heartbeat = some (0 + 1) ∧
    ∃ t, (safedBoard .enteringRun).ctl.mode = .enteringRun ∧ (safedBoard .enteringRun).live = true ∧
      (∀ c : Chan, ((safedBoard .enteringRun).chan c).transitionMark = false) ∧
      exec .enteringRunComplete (safedBoard .enteringRun) = .next t :=
  ⟨by decide, by decide, rfl, _, by decide, by decide, by decide, rfl⟩

/-- A configured channel with an entry queued, and an unconfigured one. -/
theorem witness_GetChannelReturnsChannelBlock :
    let s := listen (with3 { holding3 with queue := [setE 0] } busyRun)
    Listening s ∧ (s.chan 3).desc = some holdD ∧ (s.chan 3).queue[0]? = some (setE 0) ∧
    (s.chan 15).desc = none := by decide

/-- The counts 1 and 8, and the counts 0 and 9 that are refused. -/
theorem witness_ReadEventsTakesRecordsFromTheHead :
    Listening (listen (eventsHeld 32 busyRun)) ∧ (1 ≤ (0x01 : Byte).toNat ∧ (0x08 : Byte).toNat ≤ 8) ∧
    8 < (0x09 : Byte).toNat := by decide

theorem witness_FlagsAndEnablesAreReadAndWritten :
    Listening (listen busyRun) ∧ (0x80 : Byte).msb = true ∧ (0x7F : Byte).msb = false := by decide

/-- Payloads of a wrong length, channel bytes above 0Fh in each mode that takes the command, and frames
refused by each of the three tests. -/
theorem witness_MalformedRequestsChangeNothing :
    (Listening (listen busyRun) ∧ ([0x00] : List Byte).length ≠ 0 ∧ ([] : List Byte).length ≠ 1 ∧
      ([0x00] : List Byte).length ≠ 2 ∧ ([0x00] : List Byte).length ≠ 6 ∧
      ([0x00] : List Byte).length ≠ 23) ∧
    (16 ≤ (0x10 : Byte).toNat ∧ (listen configBoard).ctl.mode = .config ∧
      (List.replicate 22 (0 : Byte)).length = 22 ∧ (listen busyRun).ctl.mode = .run ∧
      (listen (safedBoard .safe)).ctl.mode = .safe ∧ Listening (listen (safedBoard .safe))) ∧
    (40 < (0x29 : Byte).toNat ∧ (0x00 : Byte).toNat ≤ 40 ∧ ([] : List Byte).length = (0x00 : Byte).toNat ∧
      (0x00 : Byte) ≠ crc8 [0x20, 0x00] ∧ (0x3F : Byte) = crc8 [0x03, 0x00] ∧
      (0x03 : Byte).toNat ∉ [0x01, 0x02, 0x10, 0x11, 0x12, 0x13, 0x20, 0x21, 0x22, 0x23, 0x30, 0x31, 0x32,
        0x40, 0x41, 0x42, 0x7F]) := by decide

/-- Each mode, with SAFE# low in CONFIG for the last clause but one. -/
theorem witness_CommandsAreTakenByMode :
    (∀ m ∈ [Mode.config, .enteringRun, .run, .enteringSafe, .safe, .enteringConfig],
      Listening (listen (inMode m)) ∧ (listen (inMode m)).ctl.mode = m) ∧
    (setSafePin false (listen configBoard)).pins.safeHigh = false ∧
    Listening (setSafePin false (listen configBoard)) := by decide

theorem witness_SetDeviceStoresOrRefuses :
    Listening (listen configBoard) ∧ (listen configBoard).ctl.mode = .config ∧
    ([0x0F, 0x00, 0x00, 0x03, 0xE8, 50] : List Byte).length = 6 := by decide

/-- A refusal by field, a conflict with another channel, an acceptance, and a hold-back. -/
theorem witness_SetChannelIsRefusedAcceptedOrHeldBack :
    let s := listen configBoard
    (Listening s ∧ s.ctl.mode = .config ∧ set3.length = 23 ∧ (byteAt set3 0).toNat = (3 : Chan).val) ∧
    (descriptorFailure (set3Short.drop 1) = some 10 ∧ set3Short.length = 23) ∧
    (descriptorFailure ((set3.set 3 0x11).drop 1) = none ∧
      (s.chan 4).desc.map (·.target) = some (descriptorOf ((set3.set 3 0x11).drop 1)).target) ∧
    (descriptorFailure (set3.drop 1) = none ∧ descriptorOf (set3.drop 1) = holdD ∧
      (∀ k : Chan, k ≠ 3 → (s.chan k).desc.map (·.target) ≠ some holdD.target) ∧
      holdD.target ≠ s.ctl.heartbeatAddress ∧ s.port.cycle = none) ∧
    (let u := passing 0x080010 (listen (inMode .config));
      Listening u ∧ u.port.state = .passOn ∧ u.port.cycle.map (·.address) = some holdD.target ∧
      (∀ k : Chan, (u.chan k).desc = none)) := by decide

/-- A SET_CHANNEL held back, the cycle that held it gone; its transaction open and closed. -/
def heldBack (phase : Phase) : State :=
  { inMode .config with
    mgmt := { MgmtPort.reset with
      phase := phase, pendingSet := some { channel := 3, descriptor := holdD } } }

/-- Behind its cycle, and with it gone. -/
theorem witness_HeldBackSetChannelIsAccepted :
    (let s := passing 0x080010 (heldBack .pending);
      s.live = true ∧ s.mgmt.pendingSet = some { channel := 3, descriptor := holdD } ∧
      s.port.state = .passOn ∧ s.port.cycle.map (·.address) = some holdD.target) ∧
    (heldBack .pending).live = true ∧ (heldBack .closed).live = true ∧
    (heldBack .pending).mgmt.pendingSet = some { channel := 3, descriptor := holdD } ∧
    (heldBack .closed).mgmt.pendingSet = some { channel := 3, descriptor := holdD } ∧
    (heldBack .pending).port.cycle = none ∧ (heldBack .closed).mgmt.phase ≠ .pending := by decide

theorem witness_ClearChannelEmptiesTheSlot :
    Listening (listen configBoard) ∧ (listen configBoard).ctl.mode = .config ∧
    ((listen configBoard).chan 15).desc = none ∧ ((listen configBoard).chan 3).desc.isSome = true := by
  decide

/-- Both commands, with SAFE# high and low, with a healthy channel and with none. -/
theorem witness_StartAndResumeBeginRun :
    (let s := listen configBoard;
      Listening s ∧ s.ctl.mode = .config ∧ s.pins.safeHigh = true ∧ HasHealthyChannel s ∧
        (s.chan 15).desc = none) ∧
    (let s := setSafePin false (listen (safedBoard .safe));
      Listening s ∧ s.ctl.mode = .safe ∧ s.pins.safeHigh = false) ∧
    (let s := listen (inMode .safe);
      Listening s ∧ s.ctl.mode = .safe ∧ s.pins.safeHigh = true ∧ ¬ HasHealthyChannel s ∧
        ∀ c : Chan, (s.chan c).transitionMark = false) := by decide

/-- A RUN in which channel 7 alone is configured and in FAULT. -/
def faultRun : State := (inMode .run).setChan 7 fault7

/-- RUN with each cause, with a healthy channel and with none; and SAFE# in ENTERING_RUN, with a healthy
channel, with a mark left and with none, in another mode, and at a part that takes no events. -/
theorem witness_ModeLeavesRun :
    (let s := listen { busyRun with ctl := { busyRun.ctl with heartbeat := some 0 } };
      s.live = true ∧ s.ctl.mode = .run ∧ HasHealthyChannel s ∧ s.mgmt.phase = .request ∧
        s.pins.safeHigh = true ∧ s.ctl.heartbeat = some 0) ∧
    (let s := safedBoard .enteringRun;
      s.live = true ∧ s.pins.safeHigh = true ∧ s.ctl.mode = .enteringRun ∧ HasHealthyChannel s) ∧
    (configBoard.live = true ∧ configBoard.pins.safeHigh = true ∧ configBoard.ctl.mode ≠ .run ∧
      configBoard.ctl.mode ≠ .enteringRun) ∧
    (let s := { faultRun with ctl := { faultRun.ctl with heartbeat := some 0 } };
      s.live = true ∧ s.ctl.mode = .run ∧ ¬ HasHealthyChannel s ∧ s.pins.safeHigh = true ∧
      s.ctl.heartbeat = some 0 ∧ ∀ c : Chan, (s.chan c).transitionMark = false) ∧
    (∀ mark ∈ [true, false],
      let s := (inMode .enteringRun).setChan 7 { fault7 with transitionMark := mark }
      s.live = true ∧ s.pins.safeHigh = true ∧ s.ctl.mode = .enteringRun ∧ ¬ HasHealthyChannel s ∧
        (s.chan 7).transitionMark = mark ∧ ∀ c : Chan, c ≠ 7 → (s.chan c).transitionMark = false) ∧
    (setClock false busyRun).live = false := by decide

theorem witness_TransitionsComplete :
    (∀ m ∈ [Mode.enteringRun, .enteringSafe, .enteringConfig, .safe],
      let s := listen (safedBoard m)
      s.live = true ∧ (∀ c : Chan, (s.chan c).transitionMark = false) ∧ s.ctl.mode = m ∧
        s.mgmt.phase = .request) ∧
    (let s := listen faultRun;
      Listening s ∧ s.ctl.mode = .run ∧ s.port.state ≠ .stalled ∧
        (∀ c : Chan, (s.chan c).desc = none ∨ (s.chan c).state = .fault) ∧
        ∀ c : Chan, (s.chan c).transitionMark = false) := by decide

/-- No expiry due and no head waiting, an expiry due, and a head waiting. -/
theorem witness_TickAdvancesTimersAndTimestamp :
    Sound busyRun ∧ (busyRun.live = true ∧ (busyRun.chan 3).minHold = some 1200 ∧ NoneDue busyRun) ∧
    NoHeadWaits busyRun ∧
    (let s := restBoard.setChan 7 { chanOn freeHoldD .resting 0 with queue := [setE 5] };
      s.live = true ∧ (s.chan 7).queue ≠ []) ∧
    (let s := busyRun.setChan 8 { mark8 with markTimer := some 0 };
      s.live = true ∧ (s.chan 8).markTimer = some 0) := ⟨sound_busyRun, by decide⟩

/-- Each cause of a reset, with a host read in progress and an open transaction, and with CLK stopped. -/
theorem witness_ResetsSetEveryBlock :
    ((setClock false busyRun).pins.resetLow = false ∧ (setClock false busyRun).pins.supplyOk = true) ∧
    (passing 0x080014 busyRun).pins.clkRunning = true ∧ busyRun.pins.resetLow = false ∧
    busyRun.pins.supplyOk = true ∧
    (let s := listen busyRun;
      let t := { s with mgmt := { s.mgmt with resetArmed := true } }
      t.pins.clkRunning = true ∧ t.pins.mcsLow = true ∧ t.mgmt.resetArmed = true) := by decide

/-- The level of SENSEn is one the comparison of `c` has taken. -/
abbrev SenseTaken (s : State) (c : Chan) : Prop :=
  ∀ k, (s.chan c).cmp = some k →
    (k.phase = .agree → k.expected = some s.pins.sense[c.val]) ∧
    (k.phase = .filtering ∨ k.phase = .confirmed → k.expected ≠ some s.pins.sense[c.val])

/-- CLK is stopped at a part that no reset holds. -/
abbrev Stopped (s : State) : Prop := s.pins.clkRunning = false ∧ s.heldInReset = false

/-- `busyRun` with channel 3 supervised and CLK stopped, every input at the level last taken. -/
def stoppedRun : State := setClock false (with3 { holding3 with cmp := some (agreeing false) } busyRun)

/-- The hold of a reset that a release ends and one that a second cause keeps; and the hold with the port in
each state it leaves, with what the strobes show when they have changed. -/
theorem witness_ReleasesAndTheClock :
    (let s := after .resetAssert busyRun;
      s.heldInReset = true ∧ s.pins.clkRunning = true ∧ s.pins.strobes = none ∧
      { s with pins := { s.pins with resetLow := false } }.heldInReset = false) ∧
    (let s := after .supplyFall (after .resetAssert busyRun);
      { s with pins := { s.pins with resetLow := false } }.heldInReset = true) ∧
    (∀ i ∈ [Instr.hostCycleInReset .read 5 0, .hostCycleInReset .invalid 5 0, .hostCycleInReset .write 5 1],
      let s := after i (after .resetAssert (setClock false busyRun))
      s.heldInReset = true ∧ s.pins.strobes.any (·.isSome) = true ∧ s.port.state = .idle) ∧
    (let s := after .hostCycleEnd (after .resetAssert (setClock false (passing 0x080014 busyRun)));
      let t := after (.hostCycleInReset .write 5 1) s
      s.heldInReset = true ∧ s.pins.strobes = some none ∧ s.port.state = .ending ∧
      t.pins.strobes = some (some (.write 5 1)) ∧ t.port.cycle.map (·.kind) = some .read) ∧
    let s := { after .resetAssert (setClock false busyRun) with
      pins := { busyRun.pins with resetLow := true, strobes := some none } }
    s.heldInReset = true ∧ s.port.state = .idle := by decide

/-- The part stopped with every SENSEn at the level last taken, whatever other input has changed, and with
SENSE3 alone at another. -/
theorem witness_ReleasesAndTheClock_sense :
    (∀ i ∈ [Instr.transactionOpen, .safeLineFall, .governedRead 0x080010, .governedWrite 0x080010 5,
        .passThroughArrival 0x080014 none, .invalidCycle 5],
      ∀ c : Chan, SenseTaken (after i stoppedRun) c) ∧
    (after (.senseChange 3 true) stoppedRun).pins = { stoppedRun.pins with
      sense := stoppedRun.pins.sense.set 3 true } ∧
    (∀ c : Chan, SenseTaken stoppedRun c) ∧ Stopped (after (.senseChange 3 true) stoppedRun) ∧
    ¬ SenseTaken (after (.senseChange 3 true) stoppedRun) 3 ∧
    ∀ k : Chan, k ≠ 3 → SenseTaken (after (.senseChange 3 true) stoppedRun) k := by decide

/-- CLK stopped with every input but SENSEn at the level last taken, and with one alone at another. -/
theorem witness_ReleasesAndTheClock_levels :
    (Stopped stoppedRun ∧ stoppedRun.pins.mcsLow = false ∧ stoppedRun.mgmt.phase = .closed ∧
      stoppedRun.pins.strobes = none ∧ stoppedRun.pins.safeHigh = true) ∧
    (let s := after .transactionOpen stoppedRun;
      Stopped s ∧ s.pins.mcsLow = true ∧ s.mgmt.phase = .closed ∧ s.pins.strobes = none ∧
      s.pins.safeHigh = true) ∧
    (let s := after .safeLineFall stoppedRun;
      Stopped s ∧ s.pins.safeHigh = false ∧ s.pins.mcsLow = false ∧ s.mgmt.phase = .closed ∧
      s.pins.strobes = none) ∧
    (let s := after .hostCycleEnd (setClock false (passing 0x080014 busyRun));
      Stopped s ∧ s.pins.strobes = some none ∧ s.port.state ≠ .idle ∧ s.pins.safeHigh = true ∧
      s.pins.mcsLow = false ∧ s.mgmt.phase = .closed) ∧
    ∀ i ∈ [Instr.governedRead 0x080010, .governedWrite 0x080010 5, .passThroughArrival 0x080014 none,
        .invalidCycle 5],
      let s := after i stoppedRun
      Stopped s ∧ s.pins.strobes.any (·.isSome) = true ∧ s.port.state = .idle ∧ s.pins.safeHigh = true ∧
        s.pins.mcsLow = false ∧ s.mgmt.phase = .closed := by decide

/-- CLK stopped: a tick; strobes asserted as taken and as shown since; and not asserted, in reset and out of
it. -/
theorem witness_StoppedClockFreezesEveryBlock :
    (∃ t, exec .timestampTick (setClock false busyRun) = .next t) ∧
    (setClock false busyRun).pins.clkRunning = false ∧ Instr.timestampTick ≠ .clkRunsAgain ∧
    (let s := setClock false (passing 0x080014 busyRun);
      s.pins.strobes = none ∧ s.port.state ≠ .idle ∧ s.port.released = false) ∧
    (let s := after (.governedRead 0x080010) (setClock false busyRun);
      s.pins.clkRunning = false ∧ s.pins.strobes = some (some (.read 0x080010))) ∧
    (let s := setClock false busyRun;
      s.heldInReset = false ∧ s.pins.strobes = none ∧ s.port.state = .idle ∧
      s.governed 0x080010 ≠ none ∧ s.governed 0x080014 = none) ∧
    (let s := after .resetAssert (setClock false busyRun);
      s.pins.clkRunning = false ∧ s.heldInReset = true ∧ s.port.state = .idle ∧ s.pins.strobes = none) :=
  ⟨⟨_, rfl⟩, by decide⟩

theorem witness_TransactionOpensAndCloses :
    (busyRun.pins.clkRunning = true ∧ busyRun.pins.mcsLow = false) ∧
    ((listen busyRun).pins.clkRunning = true ∧ (listen busyRun).pins.mcsLow = true ∧
      (listen busyRun).mgmt.resetArmed = false) ∧ Listening (listen busyRun) := by decide

/-- A response that is ready, and one that is being sent. -/
theorem witness_ResponseFrameIsSent :
    ∀ p ∈ [Phase.pending, .response],
      let s := { busyRun with mgmt := { MgmtPort.reset with
        phase := p, response := some { status := .accepted, payload := [] } } }
      s.live = true ∧ s.mgmt.response = some { status := .accepted, payload := [] } ∧ s.mgmt.phase = p := by
  decide

/-- A governed read in each view of each kind. -/
theorem witness_GovernedReadIsAnsweredFromTheView :
    (AddressLaw busyRun ∧ busyRun.governed 0x080010 = some 3) ∧
    (CycleCanArrive busyRun ∧ (busyRun.chan 3).desc = some holdD ∧ holdD.view = .commanded ∧
      holdD.kind.holdPart.isSome = true) ∧
    (busyRun.governed 0x080011 = some 4 ∧ (busyRun.chan 4).desc = some trainD ∧
      trainD.view = .commanded ∧ trainD.kind.trainPart.isSome = true) ∧
    (let d := { holdD with view := .driven };
      let s := with3 { holding3 with desc := some d } busyRun
      CycleCanArrive s ∧ s.governed 0x080010 = some 3 ∧ (s.chan 3).desc = some d ∧ d.view = .driven) := by
  decide

/-- A HOLD channel in RUN with and without entries, and both kinds outside RUN. -/
theorem witness_CommandedViewsByKind :
    (Sound busyRun ∧ (busyRun.chan 3).desc = some holdD ∧ holdD.kind.holdPart.isSome = true ∧
      (busyRun.chan 3).queue = [] ∧ (busyRun.chan 3).state = .holding ∧
      (busyRun.chan 7).state = .fault ∧ (busyRun.chan 7).queue = []) ∧
    (let s := safedBoard .safe;
      Sound s ∧ s.ctl.mode ≠ .run ∧ (s.chan 3).desc = some holdD ∧ (s.chan 4).desc = some trainD ∧
        trainD.kind.trainPart.isSome = true ∧ (s.chan 3).state = .safed) :=
  ⟨⟨sound_busyRun, by decide⟩, sound_safed, by decide⟩

/-- A write to a channel in FAULT in RUN, and a write outside RUN. -/
theorem witness_GovernedWriteIsBlocked :
    (CycleCanArrive busyRun ∧ busyRun.governed 0x080012 = some 7 ∧ (busyRun.chan 7).state = .fault) ∧
    CycleCanArrive configBoard ∧ configBoard.governed 0x080010 = some 3 ∧
      configBoard.ctl.mode ≠ .run := by decide

/-- Absorbed by the tail and by the intended value; with seven entries; with eight, by each full policy. -/
theorem witness_HoldWriteIsAbsorbedQueuedOrHeld :
    (let s := with3 { holding3 with queue := fullQueue } busyRun;
      CycleCanArrive s ∧ s.governed 0x080010 = some 3 ∧ (s.chan 3).desc = some holdD ∧
      holdD.kind.holdPart.isSome = true ∧ s.ctl.mode = .run ∧ (s.chan 3).state ≠ .fault ∧
      (s.chan 3).queue.getLast? = some (setE 0) ∧ (setE 0).operand ≠ 5 ∧ 8 ≤ (s.chan 3).queue.length ∧
      holdD.policy = .stall) ∧
    ((busyRun.chan 3).queue = [] ∧ (busyRun.chan 3).target = some 5) ∧
    (let s := with3 { holding3 with queue := fullQueue.tail } busyRun;
      (s.chan 3).queue.length < 8 ∧ (s.chan 3).queue.getLast? = some (setE 0)) ∧
    (let s := restBoard.setChan 7 { chanOn freeHoldD .holding 5 with queue := fullQueue };
      CycleCanArrive s ∧ s.governed 0x080012 = some 7 ∧ 8 ≤ (s.chan 7).queue.length ∧
      freeHoldD.policy = .discard) := by decide

/-- Each range of the data byte at its ends; a queue with room and a full one, by each full policy. -/
theorem witness_TrainWriteIsDecodedByItsByte :
    (CycleCanArrive busyRun ∧ busyRun.governed 0x080013 = some 8 ∧
      (busyRun.chan 8).desc = some freeTrainD ∧ freeTrainD.kind.trainPart.isSome = true ∧
      busyRun.ctl.mode = .run ∧ (busyRun.chan 8).state ≠ .fault ∧ (busyRun.chan 8).queue.length < 8) ∧
    (let s := busyRun.setChan 8 { mark8 with queue := List.replicate 8 (trainE 1) };
      8 ≤ (s.chan 8).queue.length ∧ freeTrainD.policy = .discard ∧ s.governed 0x080013 = some 8) ∧
    (let d := { freeTrainD with policy := .stall };
      let s := busyRun.setChan 8 { mark8 with desc := some d, queue := List.replicate 8 (trainE 1) }
      8 ≤ (s.chan 8).queue.length ∧ d.policy = .stall ∧ s.governed 0x080013 = some 8) ∧
    (∀ v ∈ [(0x01 : Byte), 0x3F], 0x01 ≤ v.toNat ∧ v.toNat ≤ 0x3F) ∧
    (∀ v ∈ [(0x81 : Byte), 0x8F], 0x81 ≤ v.toNat ∧ v.toNat ≤ 0x8F) ∧
    ∀ v ∈ [(0x40 : Byte), 0x80, 0x90, 0xFF],
      (0x40 ≤ v.toNat ∧ v.toNat ≤ 0x80) ∨ 0x90 ≤ v.toNat := by decide

/-- A TRAIN channel in each state that an ABORT finds. -/
theorem witness_AbortActsByTheState :
    (∀ x ∈ [mark8, { mark8 with abortPending := true }, space8,
        { chanOn freeTrainD .pausing 0 with pauseTimer := some 3 }, chanOn freeTrainD .resting 0,
        chanOn freeTrainD .recovering 0],
      let s := busyRun.setChan 8 x
      CycleCanArrive s ∧ s.governed 0x080013 = some 8 ∧ (s.chan 8).desc = some freeTrainD ∧
        freeTrainD.kind.trainPart.isSome = true ∧ s.ctl.mode = .run) ∧
    (CycleCanArrive busyRun ∧ busyRun.governed 0x080011 = some 4 ∧ (busyRun.chan 4).desc = some trainD ∧
      (busyRun.chan 4).state = .waiting ∧ trainD.group = some 0 ∧ (busyRun.chan 4).requested = some 2) := by
  decide

/-- An unconfigured channel, one in FAULT, a HOLD channel with and without entries, a full queue, and a
pausing TRAIN channel. -/
theorem witness_QueueWriteActsByItsTable :
    (let s := listen busyRun;
      Listening s ∧ s.ctl.mode = .run ∧ (s.chan 15).desc = none ∧ (s.chan 7).desc.isSome = true ∧
      (s.chan 7).state = .fault ∧ (s.chan 3).desc = some holdD ∧ (s.chan 3).state ≠ .fault ∧
      holdD.kind.holdPart.isSome = true ∧ (s.chan 3).queue = [] ∧ (s.chan 3).intended = some 5 ∧
      (s.chan 3).queue.length < 8 ∧ (s.chan 8).desc = some freeTrainD ∧ (s.chan 8).state ≠ .fault ∧
      freeTrainD.kind.trainPart.isSome = true) ∧
    (let s := listen (with3 { holding3 with queue := fullQueue } busyRun);
      8 ≤ (s.chan 3).queue.length ∧ (s.chan 3).queue.getLast? = some (setE 0)) ∧
    (let s := listen (busyRun.setChan 8 { chanOn freeTrainD .pausing 0 with pauseTimer := some 3 });
      (s.chan 8).state = .pausing ∧ s.port.held = none) := by decide

/-- An unconfigured channel; a queue with no write held on it; a write held that repeats the intended value,
and one that does not; and a count and a pause held on a TRAIN queue. -/
theorem witness_PurgeEmptiesTheQueue :
    (∀ v ∈ [(0x01 : Byte), 0x8F],
      let x := { mark8 with queue := List.replicate 8 (trainE 1) }
      let s := listen (stalled 8 v (busyRun.setChan 8 x))
      Listening s ∧ (s.chan 8).desc = some freeTrainD ∧ freeTrainD.kind.trainPart.isSome = true ∧
        s.ctl.mode = .run ∧ s.port.state = .stalled ∧ s.port.held.map (·.channel) = some 8 ∧
        s.port.held.map (·.data) = some v) ∧
    (let s := listen busyRun;
      Listening s ∧ s.ctl.mode = .run ∧ (s.chan 15).desc = none ∧ (s.chan 3).desc.isSome = true ∧
      s.port.held = none) ∧
    ∀ v ∈ [(0x05 : Byte), 0x07],
      let s := listen (stalled 3 v (with3 { holding3 with queue := fullQueue } busyRun))
      Listening s ∧ (s.chan 3).desc = some holdD ∧ holdD.kind.holdPart.isSome = true ∧
        s.port.state = .stalled ∧ s.port.held = some { channel := 3, data := v, entry := setE v } ∧
        (s.chan 3).intended = some 5 := by decide

/-- Arrivals at an IDLE port, in reset and out of it, and the ends of a cycle in each state of the port. -/
theorem witness_HostCyclesArriveAndEnd :
    (CycleCanArrive busyRun ∧ busyRun.governed 0x080014 = none) ∧
    (let s := after .resetAssert busyRun;
      s.pins.clkRunning = true ∧ s.heldInReset = true ∧ s.port.state = .idle) ∧
    (let s := after (.invalidCycle 0x080014) busyRun;
      s.port.state = .ending ∧ s.pins.clkRunning = true) ∧
    (passWaits 0 busyRun).port.state = .passWait ∧ (passing 0x080014 busyRun).port.state = .passOn ∧
    (stalled 3 5 busyRun).port.state = .stalled := by decide

/-- A heartbeat write in RUN with the timer running; a cycle with a SET_CHANNEL held back behind it. -/
theorem witness_PassThroughCycleEnds :
    (let s := beating { busyRun with ctl := { busyRun.ctl with heartbeat := some 1 } };
      s.live = true ∧ s.down.bus = .pass ∧ s.port.state = .passOn ∧
      s.port.cycle.bind (·.decode) = some .passHeartbeat ∧ s.ctl.mode = .run ∧ s.ctl.heartbeat ≠ none ∧
      s.mgmt.pendingSet = none) ∧
    (let s := passing 0x080010 (heldBack .pending);
      s.live = true ∧ s.down.bus = .pass ∧ s.port.state = .passOn ∧ s.port.cycle.isSome = true ∧
      s.mgmt.pendingSet ≠ none) := by decide

/-- A stall with its timer running; a write held on a queue with room, of a HOLD channel that absorbs it by
the tail, by the intended value and not at all, and of a TRAIN channel. -/
theorem witness_StallEndsByItsLimitOrAFreeSlot :
    (let s := stalled 3 5 busyRun;
      s.live = true ∧ s.port.state = .stalled ∧ s.port.stallTimer.isSome = true ∧
      s.port.held = some { channel := 3, data := 5, entry := setE 5 } ∧
      (s.chan 3).desc = some holdD ∧ (s.chan 3).queue.length < 8 ∧ holdD.kind.holdPart.isSome = true ∧
      (s.chan 3).queue = [] ∧ (s.chan 3).intended = some 5) ∧
    (let s := stalled 3 5 (with3 { holding3 with queue := fullQueue.tail } busyRun);
      (s.chan 3).queue.length < 8 ∧ (s.chan 3).queue.getLast? = some (setE 0) ∧ (setE 0).operand ≠ 5) ∧
    (let s := stalled 8 1 busyRun;
      s.live = true ∧ (s.chan 8).desc = some freeTrainD ∧ freeTrainD.kind.trainPart.isSome = true ∧
      (s.chan 8).queue.length < 8 ∧ 0x01 ≤ (1 : Byte).toNat) ∧
    (let s := stalled 8 0x81 busyRun;
      s.port.held.map (·.data) = some 0x81 ∧ (s.chan 8).queue.length < 8) ∧
    (busyRun.port.state ≠ .stalled ∧ (stalled 3 5 busyRun).port.held.map (·.channel) ≠ some 8) := by decide

/-- Channel 7 with a drive write in flight in each state the statement distinguishes, by its descriptor. -/
def driven7 (d : Descriptor) (x : Channel) : State :=
  driving 7 0x080012 5 (restBoard.setChan 7 { x with desc := some d })

/-- A drive in each transition mode, attached and detached, of a channel with its mark, the last one or not. -/
def transitionDrive (attached : Bool) (m : Mode) (other : Bool) : State :=
  let s := ((safedBoard m).setChan 3 { chanOn holdD .safed 0 with transitionMark := true }).setChan 7
    { chanOn freeHoldD .safed 0 with transitionMark := other, slot := if other then some 0 else none }
  if attached then driving 3 0x080010 0 s else drivingDetached 3 0x080010 0 s

/-- What the statements of a drive end ask of such a state. -/
theorem transitionDrive_meets :
    ∀ attached ∈ [true, false], ∀ m ∈ [Mode.enteringRun, .enteringSafe, .enteringConfig],
      ∀ other ∈ [true, false],
      let s := transitionDrive attached m other
      s.live = true ∧ s.down.inFlight = some ⟨3, 0x080010, 0, attached⟩ ∧ s.ctl.mode = m ∧
        (s.chan 3).desc = some holdD ∧ (s.chan 3).state ≠ .fault ∧ (s.chan 3).slot = none ∧
        (s.chan 3).transitionMark = true ∧ (s.chan 7).transitionMark = other := by decide

/-- A drive of each kind of end in a settled mode; `transitionDrive_meets` gives the transition modes. -/
theorem witness_DriveCompletionActsByTheState :
    (let s := drivingDetached 7 0x080012 5 restBoard;
      s.live = true ∧ SettledMode s ∧ (s.chan 7).transitionMark = false ∧
      s.down.bus = .drive { channel := 7, address := 0x080012, value := 5, attached := false }) ∧
    (∀ x ∈ [chanOn freeHoldD .holding 5, chanOn freeHoldD .recovering 0, chanOn freeHoldD .held 5,
        { chanOn freeHoldD .holding 5 with queue := [setE 0] },
        { chanOn freeHoldD .recovering 0 with queue := [setE 5] },
        { chanOn freeHoldD .holding 5 with slot := some 1 }],
      ∀ d ∈ [freeHoldD, { freeHoldD with kind := .hold { minHold := 0, maxHold := 0 } },
          { freeHoldD with gap := 1 }],
        let s := driven7 d x
        s.live = true ∧ SettledMode s ∧ s.ctl.mode = .run ∧ (s.chan 7).transitionMark = false ∧
          (s.chan 7).desc = some d ∧ s.port.state ≠ .stalled ∧ (s.chan 7).recovery = none ∧
          (s.chan 7).minHold = none ∧ d.group = none) ∧
    (let d := { freeHoldD with group := some 0 };
      let s := (driven7 d (chanOn d .recovering 0)).setGroup 0 { holder := some 7, waiters := [] }
      (s.chan 7).desc = some d ∧ d.gap = 0 ∧ (s.group 0).holder = some 7 ∧ (s.group 0).waiters = [] ∧
        (s.chan 7).state = .recovering ∧ (s.chan 7).slot = none ∧ (s.chan 7).queue = []) ∧
    ∀ x ∈ [{ mark8 with markTimer := none }, { space8 with spaceTimer := none },
        chanOn freeTrainD .recovering 0, mark8],
      let s := driving 8 0x080013 1 (busyRun.setChan 8 x)
      s.live = true ∧ SettledMode s ∧ (s.chan 8).slot = none ∧ (s.chan 8).desc = some freeTrainD ∧
        (s.chan 8).transitionMark = false := by decide

/-- Channel 3 SAFED with its mark, alone and with another mark left, in each transition mode. -/
theorem witness_LastDriveEndCompletesTheTransition :
    ∀ m ∈ [Mode.enteringRun, .enteringSafe, .enteringConfig], ∀ other ∈ [true, false],
      let s := driving 3 0x080010 0
        (((safedBoard m).setChan 3 { chanOn holdD .safed 0 with transitionMark := true }).setChan 7
          { chanOn freeHoldD .safed 0 with transitionMark := other, slot := if other then some 0 else none })
      s.live = true ∧ (s.chan 3).desc = some holdD ∧ (s.chan 3).state = .safed ∧
        s.ctl.mode.isTransition = true ∧ (s.chan 3).slot = none ∧ (s.chan 7).transitionMark = other := by
  decide

/-- A detached drive; an attached one in CONFIG and of a channel in FAULT; and in RUN of an ungrouped
channel with and without a write held on its queue, of a token holder, with waiters and with none, and of a
waiter; `transitionDrive_meets` gives the transition modes. -/
theorem witness_DriveTimeoutActsByModeAndState :
    (let s := drivingDetached 7 0x080012 5 restBoard;
      s.live = true ∧ SettledMode s ∧ (s.chan 7).transitionMark = false) ∧
    (let s := driving 3 0x080010 0 configBoard;
      s.live = true ∧ SettledMode s ∧ s.ctl.mode = .config ∧ (s.chan 3).desc = some holdD) ∧
    (let s := driving 7 0x080012 0 busyRun;
      (s.chan 7).state = .fault ∧ (s.chan 7).desc = some freeHoldD) ∧
    (let s := stalled 7 1 (driven7 freeHoldD (chanOn freeHoldD .held 5));
      s.live = true ∧ SettledMode s ∧ s.ctl.mode ≠ .config ∧ (s.chan 7).state ≠ .fault ∧
      freeHoldD.group = none ∧ s.port.state = .stalled ∧ s.port.held.map (·.channel) = some 7) ∧
    (let s := driving 3 0x080010 5 (busyRun.setGroup 0 { holder := some 3, waiters := [] });
      s.live = true ∧ holdD.group = some 0 ∧ (s.group 0).holder = some 3 ∧ (s.group 0).waiters = [] ∧
      s.port.state ≠ .stalled) ∧
    (let s := stalled 3 7 (driving 3 0x080010 5 busyRun);
      s.live = true ∧ s.ctl.mode = .run ∧ (s.chan 3).desc = some holdD ∧ (s.chan 3).state ≠ .fault ∧
      (s.group 0).holder = some 3 ∧ (s.group 0).waiters = [4] ∧ s.port.held.map (·.channel) = some 3) ∧
    (let s := driving 4 0x080011 0 busyRun;
      s.live = true ∧ (s.chan 4).desc = some trainD ∧ trainD.group = some 0 ∧
      (s.group 0).holder ≠ some 4 ∧ (s.chan 4).transitionMark = false) := by decide

/-- A waiter of each kind, with the token free, and behind a recovery that ends, of a channel with an empty
queue and of one with a head; and no waiter. -/
theorem witness_GrantServesTheHeadWaiter :
    (restBoard.group 0).waiters = [] ∧
    (let s := with3 { chanOn holdD .recovering 0 with recovery := some 0, queue := [setE 5] } busyRun;
      s.live = true ∧ (s.group 0).waiters = 4 :: [] ∧ (s.group 0).holder = some 3 ∧
      (s.chan 3).desc = some holdD ∧ (s.chan 3).state = .recovering ∧ (s.chan 3).recovery = some 0 ∧
      (s.chan 3).queue ≠ []) ∧
    (let s := board .run { chanOn holdD .waiting 0 with requested := some 5 }
        { chanOn trainD .recovering 0 with recovery := some 0, queue := [trainE 2] } fault7 mark8
        { holder := some 4, waiters := [3] };
      (s.group 0).holder = some 4 ∧ (s.chan 4).recovery = some 0 ∧ (s.chan 4).queue ≠ []) ∧
    (let s := busyRun.setGroup 0 { holder := none, waiters := [4] };
      s.live = true ∧ (s.group 0).waiters = 4 :: [] ∧ (s.chan 4).desc = some trainD ∧
      (s.chan 4).requested = some 2 ∧ (s.group 0).holder = none) ∧
    (let s := with3 { chanOn holdD .recovering 0 with recovery := some 0 } busyRun;
      (s.group 0).waiters = 4 :: [] ∧ (s.group 0).holder = some 3 ∧ (3 : Chan) ≠ 4 ∧ s.ctl.mode = .run ∧
      (s.chan 3).desc = some holdD ∧ holdD.group = some 0 ∧ (s.chan 3).state = .recovering ∧
      (s.chan 3).recovery = some 0 ∧ (s.chan 3).queue = [] ∧ s.port.state ≠ .stalled) ∧
    (let s := board .run { chanOn holdD .waiting 0 with requested := some 5 }
        { chanOn trainD .recovering 0 with recovery := some 0 } fault7 mark8
        { holder := some 4, waiters := [3] };
      s.live = true ∧ (s.group 0).waiters = 3 :: [] ∧ (s.chan 3).desc = some holdD ∧
      (s.chan 3).requested = some 5 ∧ (s.group 0).holder = some 4 ∧ (s.chan 4).desc = some trainD ∧
      trainD.kind.trainPart.isSome = true ∧ (s.chan 4).recovery = some 0) := by decide

/-- Channel 3 with a head SET(v) in RESTING, WAITING and HELD, by the values and the token the statement
distinguishes. -/
theorem witness_HoldHeadIsTakenByTheState :
    (∀ x ∈ [{ chanOn holdD .resting 0 with queue := [setE 0] },
        { chanOn holdD .resting 0 with queue := [setE 0, setE 5] },
        { chanOn holdD .resting 0 with queue := [setE 5] },
        { chanOn holdD .waiting 0 with requested := some 5, queue := [setE 0] },
        { chanOn holdD .waiting 0 with requested := some 5, queue := [setE 0, setE 7] },
        { chanOn holdD .waiting 0 with requested := some 5, queue := [setE 7] },
        { chanOn holdD .held 5 with queue := [setE 0] }, { chanOn holdD .held 5 with queue := [setE 7] }],
      ∀ g ∈ [{ holder := none, waiters := [] }, { holder := some (4 : Chan), waiters := [] }],
        let s := (with3 x restBoard).setGroup 0 g
        s.live = true ∧ s.ctl.mode = .run ∧ s.port.state ≠ .stalled ∧ (s.chan 3).desc = some holdD ∧
          holdD.kind.holdPart.isSome = true ∧ holdD.group = some 0 ∧ (s.chan 3).queue ≠ []) ∧
    (let s := restBoard.setChan 7 { chanOn freeHoldD .resting 0 with queue := [setE 5] };
      (s.chan 7).desc = some freeHoldD ∧ freeHoldD.group = none ∧ (s.chan 7).intended ≠ some 5) ∧
    (let s := stalled 3 5 (with3 { chanOn holdD .held 7 with queue := fullQueue.tail ++ [setE 7] } restBoard);
      s.live = true ∧ s.ctl.mode = .run ∧ s.port.state = .stalled ∧ (s.chan 3).queue.length = 8 ∧
      s.port.held.map (·.channel) = some 3 ∧ (s.chan 3).state = .held) := by decide

/-- Each expiry of a HOLD channel, with an empty queue and with a head, ungrouped and grouped, and a min-hold
expiry with the max-hold expiry of the same tick. -/
theorem witness_HoldTimersExpire :
    (∀ x ∈ [{ chanOn freeHoldD .holding 5 with minHold := some 0 },
        { chanOn freeHoldD .holding 5 with minHold := some 0, queue := [setE 0] },
        { chanOn freeHoldD .holding 5 with minHold := some 0, queue := [setE 5] },
        { chanOn freeHoldD .holding 5 with minHold := some 0, maxHold := some 0 },
        { chanOn freeHoldD .held 5 with maxHold := some 0 },
        { chanOn freeHoldD .recovering 0 with recovery := some 0 },
        { chanOn freeHoldD .recovering 0 with recovery := some 0, queue := [setE 5] }],
      let s := restBoard.setChan 7 x
      s.live = true ∧ s.ctl.mode = .run ∧ (s.chan 7).desc = some freeHoldD ∧
        freeHoldD.kind.holdPart.isSome = true ∧ freeHoldD.group = none ∧ s.port.state ≠ .stalled) ∧
    (let s := (with3 { chanOn holdD .recovering 0 with recovery := some 0 } restBoard).setGroup 0
        { holder := some 3, waiters := [] };
      (s.chan 3).recovery = some 0 ∧ holdD.group = some 0 ∧ (s.group 0).holder = some 3 ∧
      (s.group 0).waiters = []) := by decide

/-- A pause and a count at rest: ungrouped, with the token free, with it held, and with a write held on the full
queue. -/
theorem witness_TrainHeadIsTakenAtRest :
    (let s := stalled 8 2 (restBoard.setChan 8
        { chanOn freeTrainD .resting 0 with queue := List.replicate 8 (trainE 1) });
      s.live = true ∧ s.ctl.mode = .run ∧ s.port.state = .stalled ∧
      s.port.held.map (·.channel) = some 8 ∧ (s.chan 8).state = .resting ∧ (s.chan 8).queue.length = 8) ∧
    (∀ e ∈ [pauseE 2, trainE 3],
      let s := restBoard.setChan 8 { chanOn freeTrainD .resting 0 with queue := [e] }
      s.live = true ∧ s.ctl.mode = .run ∧ s.port.state ≠ .stalled ∧ (s.chan 8).desc = some freeTrainD ∧
        freeTrainD.kind.trainPart.isSome = true ∧ (s.chan 8).queue = e :: [] ∧
        (s.chan 8).state = .resting ∧ freeTrainD.group = none) ∧
    ∀ g ∈ [{ holder := none, waiters := [] }, { holder := some (3 : Chan), waiters := [] }],
      let s := (restBoard.setChan 4 { chanOn trainD .resting 0 with queue := [trainE 3] }).setGroup 0 g
      (s.chan 4).desc = some trainD ∧ (s.chan 4).queue = trainE 3 :: [] ∧ trainD.group = some 0 ∧
        s.group 0 = g := by decide

/-- Each expiry of a TRAIN channel: a mark with two marks and with one remaining, a mark with an abort
pending, a space, a pause and a recovery with and without a head. -/
theorem witness_TrainTimersExpire :
    (∀ x ∈ [{ mark8 with markTimer := some 0, marks := 2 }, { mark8 with markTimer := some 0, marks := 1 },
        { mark8 with markTimer := some 0, abortPending := true }, { space8 with spaceTimer := some 0 },
        { chanOn freeTrainD .pausing 0 with pauseTimer := some 0 },
        { chanOn freeTrainD .pausing 0 with pauseTimer := some 0, queue := [trainE 1] },
        { chanOn freeTrainD .recovering 0 with recovery := some 0 },
        { chanOn freeTrainD .recovering 0 with recovery := some 0, queue := [trainE 1] }],
      let s := busyRun.setChan 8 x
      s.live = true ∧ s.ctl.mode = .run ∧ (s.chan 8).desc = some freeTrainD ∧
        freeTrainD.kind.trainPart.isSome = true ∧ freeTrainD.group = none) ∧
    (let s := (restBoard.setChan 4 { chanOn trainD .recovering 0 with recovery := some 0 }).setGroup 0
        { holder := some 4, waiters := [] };
      (s.chan 4).recovery = some 0 ∧ trainD.group = some 0 ∧ (s.group 0).holder = some 4 ∧
      (s.group 0).waiters = []) := by decide

/-- A comparison in each phase, with the level expected and with the other. -/
theorem witness_CompletionActsOnTheComparison :
    Comparison.unknown.phase = .unknown ∧ (agreeing true).phase = .agree ∧
    (agreeing true).expected = some true ∧ (agreeing false).expected ≠ some true ∧
    { agreeing true with phase := .confirmed }.phase = .confirmed := by decide

/-- SENSEn of an unconfigured and of an unsupervised channel, at the level it shows, and with CLK stopped; channel 3
with its settle time over; and SENSE3 changing in each phase. -/
theorem witness_SettleAndSenseMoveTheComparison :
    ((busyRun.chan 15).desc.bind (·.feedback) = none ∧ (busyRun.chan 4).desc.bind (·.feedback) = none ∧
      (busyRun.chan 4).desc.isSome = true ∧ busyRun.pins.sense[(3 : Chan).val] = false ∧
      (setClock false busyRun).live = false) ∧
    ∀ k ∈ [{ phase := .settling, expected := some true, settle := some 0, filter := none },
        { phase := .settling, expected := some false, settle := some 0, filter := none }, agreeing false,
        { phase := .filtering, expected := some true, settle := none, filter := some 3 },
        { phase := .confirmed, expected := some true, settle := none, filter := none },
        Comparison.unknown],
      let s := with3 { holding3 with cmp := some k } busyRun
      s.live = true ∧ (s.chan 3).desc = some holdD ∧ holdD.feedback.isSome = true ∧
        (s.chan 3).cmp = some k ∧ s.pins.sense[(3 : Chan).val] ≠ true := by decide

/-- A channel whose filter time is over. -/
def mismatched (x : Channel) : Channel :=
  { x with cmp := some { phase := .filtering, expected := some true, settle := none, filter := some 0 } }

/-- In FAULT, reported and not; outside RUN; in RUN ungrouped with and without a write held, with the token,
waiters behind it and none, and in the list; in a transition mode, grouped and not. -/
theorem witness_ConfirmedMismatchActsByModeAndState :
    let d := { holdD with group := none }
    (∀ b ∈ [true, false],
      let s := with3 { mismatched (chanOn holdD .fault 0) with stuckReported := b } busyRun
      s.live = true ∧ (s.chan 3).desc = some holdD ∧ holdD.feedback.isSome = true ∧
        (s.chan 3).driven = some 0 ∧ (s.chan 3).state = .fault ∧ (s.chan 3).stuckReported = b) ∧
    (∀ m ∈ [Mode.config, .enteringConfig, .safe, .enteringRun, .enteringSafe],
      let s := with3 (mismatched (chanOn d .safed 0)) (safedBoard m)
      s.live = true ∧ (s.chan 3).desc = some d ∧ s.ctl.mode = m ∧ (s.chan 3).state ≠ .fault ∧
        d.group = none ∧ s.port.state ≠ .stalled) ∧
    (let s := stalled 3 7 (with3 (mismatched (chanOn d .held 5)) restBoard);
      s.live = true ∧ (s.chan 3).desc = some d ∧ s.port.state = .stalled ∧
      s.port.held.map (·.channel) = some 3 ∧ s.ctl.mode = .run) ∧
    (let s := (with3 (mismatched (chanOn holdD .held 5)) restBoard).setGroup 0
        { holder := some 3, waiters := [] };
      (s.chan 3).desc = some holdD ∧ holdD.group = some 0 ∧ (s.group 0).holder = some 3 ∧
      (s.group 0).waiters = [] ∧ s.port.state ≠ .stalled) ∧
    (let s := stalled 3 7 (with3 (mismatched (chanOn holdD .held 5)) busyRun);
      s.live = true ∧ (s.chan 3).desc = some holdD ∧ (s.group 0).holder = some 3 ∧
      (s.group 0).waiters = [4] ∧ s.port.state = .stalled ∧ s.port.held.map (·.channel) = some 3) ∧
    (∀ m ∈ [Mode.enteringRun, .enteringSafe],
      let s := with3 (mismatched (chanOn holdD .safed 0)) (safedBoard m)
      s.live = true ∧ (s.chan 3).desc = some holdD ∧ holdD.group = some 0 ∧ s.ctl.mode = m) ∧
    (let s := with3 (mismatched { chanOn holdD .waiting 0 with requested := some 5 }) restBoard;
      (s.chan 3).desc = some holdD ∧ (s.group 0).holder ≠ some 3 ∧ s.ctl.mode = .run) := by decide

/-- An unconfigured channel, one not in FAULT, and one in FAULT in each mode, supervised and not, with its
driven value present and absent. -/
theorem witness_ClearFaultEndsTheFault :
    (let s := listen busyRun;
      Listening s ∧ s.ctl.mode = .run ∧ (s.chan 15).desc = none ∧ (s.chan 3).desc.isSome = true ∧
      (s.chan 3).state ≠ .fault ∧ (s.chan 7).desc = some freeHoldD ∧ (s.chan 7).state = .fault) ∧
    (let s := listen ((safedBoard .safe).setChan 7 fault7);
      Listening s ∧ s.ctl.mode = .safe ∧ (s.chan 7).desc = some freeHoldD ∧ (s.chan 7).state = .fault ∧
      freeHoldD.feedback = none) ∧
    ∀ v ∈ [none, some (0 : Byte)],
      let s := listen (with3 { chanOn holdD .fault 0 with driven := v } (safedBoard .safe))
      Listening s ∧ s.ctl.mode = .safe ∧ (s.chan 3).desc = some holdD ∧ (s.chan 3).state = .fault ∧
        (s.chan 3).driven = v ∧ holdD.feedback = some ⟨0, false, 50⟩ := by decide

end Sys2Proof.Tests
end

section
/-! The COMMANDED read views (R35, R36), which O39 is about. -/

namespace Sys2Proof.Machine

/-! ### What a sound state says of a configured channel -/

theorem Sound.kindLaw {s : State} {c : Chan} {d : Descriptor} (h : Sound s)
    (hd : (s.chan c).desc = some d) : KindLaw d (s.chan c) := by
  obtain ⟨⟨-, -, hkind, -⟩, -⟩ := h
  exact hkind c d hd

theorem Sound.targetLaw {s : State} {c : Chan} {d : Descriptor} (h : Sound s)
    (hd : (s.chan c).desc = some d) : TargetLaw d (s.chan c) := by
  obtain ⟨⟨-, -, -, htarget, -⟩, -⟩ := h
  exact htarget c d hd

theorem Sound.fieldLaw {s : State} {c : Chan} {d : Descriptor} (h : Sound s)
    (hd : (s.chan c).desc = some d) : FieldLaw d (s.chan c) := by
  obtain ⟨⟨-, -, -, -, hfield, -⟩, -⟩ := h
  exact hfield c d hd

theorem Sound.queue_nil_of_not_run {s : State} (h : Sound s) (hm : s.ctl.mode ≠ .run) (c : Chan) :
    (s.chan c).queue = [] := by
  obtain ⟨-, -, -, -, houtside, -⟩ := h
  obtain ⟨hqueue, -, -⟩ := houtside hm
  exact hqueue c

theorem ofKind_unconfigured (k : KindPart) : ChanState.ofKind k .unconfigured = false := by
  cases k <;> rfl

/-- Outside RUN no cadence runs, so a configured channel is SAFED or in FAULT (R16). -/
theorem Sound.safed_or_fault_of_not_run {s : State} {c : Chan} {d : Descriptor} (h : Sound s)
    (hd : (s.chan c).desc = some d) (hm : s.ctl.mode ≠ .run) :
    (s.chan c).state = .safed ∨ (s.chan c).state = .fault := by
  obtain ⟨hkind, -⟩ := h.kindLaw hd
  obtain ⟨-, hmode, -⟩ := h
  obtain ⟨hrun, -, -⟩ := hmode c
  have hcadence : (s.chan c).state.isCadence ≠ true := mt hrun hm
  cases hst : (s.chan c).state with
  | safed => exact .inl rfl
  | fault => exact .inr rfl
  | unconfigured => simp [hst, ofKind_unconfigured] at hkind
  | resting | waiting | holding | held | mark | space | pausing | recovering =>
    exact absurd (congrArg ChanState.isCadence hst) hcadence

/-! ### The COMMANDED view of a HOLD channel (R35) -/

theorem intended_waiting {x : Channel} (h : x.state = .waiting) : x.intended = x.requested := by
  simp [Channel.intended, h]

theorem intended_of_not_waiting {x : Channel} (h : x.state ≠ .waiting) : x.intended = x.target := by
  simp [Channel.intended, h]

theorem holdCommanded_tail {x : Channel} {q : List Entry} {e : Entry} (h : x.queue = q ++ [e]) :
    holdCommanded x = e.operand := by
  simp [holdCommanded, h]

theorem holdCommanded_intended {x : Channel} {v : Byte} (hq : x.queue = []) (hv : x.intended = some v) :
    holdCommanded x = v := by
  simp [holdCommanded, hq, hv]

theorem holdCommanded_target {x : Channel} {v : Byte} (hq : x.queue = []) (hs : x.state ≠ .waiting)
    (hv : x.target = some v) : holdCommanded x = v :=
  holdCommanded_intended hq ((intended_of_not_waiting hs).trans hv)

theorem holdCommanded_safe {d : Descriptor} {x : Channel} (ht : TargetLaw d x) (hq : x.queue = [])
    (hs : x.state = .safed ∨ x.state = .fault) : holdCommanded x = d.safe := by
  obtain ⟨hsafe, -⟩ := ht
  exact holdCommanded_target hq (by rcases hs with hs | hs <;> simp [hs]) (hsafe hs)

theorem holdCommanded_rest {d : Descriptor} {x : Channel} (ht : TargetLaw d x) (hq : x.queue = [])
    (hs : x.state = .resting ∨ x.state = .recovering) : holdCommanded x = d.rest := by
  obtain ⟨-, hrest, -⟩ := ht
  refine holdCommanded_target hq (by rcases hs with hs | hs <;> simp [hs]) (hrest ?_)
  rcases hs with hs | hs <;> simp [hs]

/-- A WAITING channel has a requested value, so the view is that value and not a default. -/
theorem holdCommanded_waiting {d : Descriptor} {x : Channel} (hf : FieldLaw d x) (hq : x.queue = [])
    (hs : x.state = .waiting) : some (holdCommanded x) = x.requested := by
  obtain ⟨hrequested, -⟩ := hf
  obtain ⟨v, hv⟩ := Option.isSome_iff_exists.mp (hrequested.mpr hs)
  rw [hv, holdCommanded_intended hq ((intended_waiting hs).trans hv)]

/-- A HOLDING or HELD channel has a target, the active value it holds. -/
theorem holdCommanded_active {d : Descriptor} {x : Channel} (ht : TargetLaw d x) (hq : x.queue = [])
    (hs : x.state = .holding ∨ x.state = .held) : some (holdCommanded x) = x.target := by
  obtain ⟨-, -, hactive, -⟩ := ht
  obtain ⟨hpresent, -⟩ := hactive hs
  obtain ⟨v, hv⟩ := Option.ne_none_iff_exists'.mp hpresent
  rw [hv, holdCommanded_target hq (by rcases hs with hs | hs <;> simp [hs]) hv]

/-! ### The COMMANDED view of a TRAIN channel (R36) -/

/-- The saturated sum fits the byte of the view. -/
theorem trainCommanded_toNat (x : Channel) :
    (trainCommanded x).toNat = min 255 (marksPromised x + queuedMarks x.queue) := by
  have hfits : min 255 (marksPromised x + queuedMarks x.queue) < 2 ^ 8 := by omega
  rw [trainCommanded, BitVec.toNat_ofNat, Nat.mod_eq_of_lt hfits]

/-- PAUSE and SET entries add nothing to the count. -/
theorem queuedMarks_eq_sum_filter (q : List Entry) :
    queuedMarks q = ((q.filter fun e => e.kind = .train).map fun e => e.operand.toNat).sum := by
  induction q with
  | nil => rfl
  | cons e q ih =>
    simp only [queuedMarks] at ih
    by_cases he : e.kind = .train <;> simp [queuedMarks, he, ih]

theorem marksPromised_safed_or_fault {x : Channel} (hs : x.state = .safed ∨ x.state = .fault) :
    marksPromised x = 0 := by
  rcases hs with hs | hs <;> simp [marksPromised, hs]

theorem trainCommanded_idle {x : Channel} (hq : x.queue = [])
    (hs : x.state = .safed ∨ x.state = .fault) : trainCommanded x = 0x00 := by
  simp [trainCommanded, marksPromised_safed_or_fault hs, hq, queuedMarks]

/-- Settles O39: the HOLD view by the value that soundness gives the target or requested field in each
state, the TRAIN view by the state's marks and the sum over the queue. -/
theorem commandedViewsByKind : Obligations.CommandedViewsByKind := by
  refine ⟨fun s c d hsound hd _ => ?_, fun x => ?_, fun s c d hsound hd _ hm => ?_⟩
  · have htarget := hsound.targetLaw hd
    refine ⟨fun q e => holdCommanded_tail, fun hq => ?_, fun hm => ?_⟩
    · exact ⟨holdCommanded_safe htarget hq, holdCommanded_rest htarget hq,
        holdCommanded_waiting (hsound.fieldLaw hd) hq, holdCommanded_active htarget hq⟩
    · exact holdCommanded_safe htarget (hsound.queue_nil_of_not_run hm c)
        (hsound.safed_or_fault_of_not_run hd hm)
  · rw [trainCommanded_toNat, queuedMarks_eq_sum_filter, marksPromised]
    cases x.state <;> rfl
  · exact trainCommanded_idle (hsound.queue_nil_of_not_run hm c) (hsound.safed_or_fault_of_not_run hd hm)

end Sys2Proof.Machine
end

section
/-! The arrival of a governed write, and the write that is blocked (R117), which O40 is about. -/

namespace Sys2Proof.Machine

/-! ### The arrival of a governed cycle (R108, R110) -/

/-- The channel that governs an address is configured with that address as its target (R1). -/
theorem governed_desc {s : State} {a : Addr} {c : Chan} (h : s.governed a = some c) :
    ∃ d, (s.chan c).desc = some d ∧ d.target = a := by
  have htarget := List.find?_some h
  simpa [Option.any_eq_true] using htarget

theorem live_iff {s : State} : s.live = true ↔ s.pins.clkRunning = true ∧ s.heldInReset = false := by
  simp [State.live]

/-- A part that takes events takes a cycle at an IDLE port (R108). -/
theorem onArrival_taken {s t : State} {h : HostStrobes} (hs : CycleCanArrive s) :
    s.onArrival (!s.heldInReset) h t = t := by
  obtain ⟨hlive, hidle⟩ := hs
  obtain ⟨hclk, hreset⟩ := live_iff.mp hlive
  simp [State.onArrival, State.portIdle, hclk, hreset, hidle]

theorem exec_governedWrite_arrives {s : State} {a : Addr} {v : Byte} {c : Chan}
    (hs : CycleCanArrive s) (hg : s.governed a = some c) :
    exec (.governedWrite a v) s = .next (governedWriteArrives a v c s) := by
  change execGovernedWrite a v s = _
  simp only [execGovernedWrite, hg, onArrival_taken hs]

/-! ### The blocked write (R117) -/

/-- Outside RUN and in FAULT the queues do not see the write: the port records and answers it itself. -/
theorem governedWriteArrives_blocked {s : State} {a : Addr} {v : Byte} {c : Chan} {d : Descriptor}
    (hd : (s.chan c).desc = some d) (hblocked : s.ctl.mode ≠ .run ∨ (s.chan c).state = .fault) :
    governedWriteArrives a v c s =
      answerHost .normal none
        (recordChannel .blockedWrite c v (arrive .write a (some v) (some (.governed c)) s)) := by
  simp only [governedWriteArrives, hd]
  rw [if_pos hblocked]

/-- The record made while the cycle is held and the answer touch different fields of the state. -/
theorem answerHost_recordChannel_arrive (kind : EventKind) (cycle : CycleKind) (a : Addr) (v w : Byte)
    (c : Chan) (decode : Option HostDecode) (ending : EndKind) (answer : Option Byte) (s : State) :
    answerHost ending answer (recordChannel kind c v (arrive cycle a (some w) decode s)) =
      { recordChannel kind c v s with
        port := answeredPort cycle a (some w) decode ending answer } := by
  rw [answerHost_held (by simp [HostPort.idle])]
  rfl

/-- Settles O40: the write arrives, the port blocks it before the queues, and the answer goes to the cycle
that has just arrived. The cause of the block and the kind of the channel play no part. -/
theorem governedWriteIsBlocked : Obligations.GovernedWriteIsBlocked := by
  intro s a v c hs hg hblocked
  obtain ⟨d, hd, -⟩ := governed_desc hg
  rw [exec_governedWrite_arrives hs hg, governedWriteArrives_blocked hd hblocked,
    answerHost_recordChannel_arrive]

end Sys2Proof.Machine
end

section
/-! The event unit: what setting a flag, the level of MINT# and storing a record do, each said once, and
the creation of a record (R162), which O16 is about. -/

namespace Sys2Proof.Machine

/-! ### Flags and MINT# (R165, R167) -/

theorem getLsbD_setFlag (n : Nat) (flags : BitVec 15) (m : Fin 15) :
    (setFlag n flags).getLsbD m = (flags.getLsbD m || m.val == n) := by
  have hbit : (BitVec.ofNat 15 (2 ^ n)).getLsbD m = (m.val == n) := by
    rw [BitVec.getLsbD_ofNat, Nat.testBit_two_pow]
    simp [Bool.beq_eq_decide_eq, eq_comm]
  rw [setFlag, BitVec.getLsbD_or, hbit]

/-- The model compares the whole word of enabled flags with zero; R167 speaks of single flags. -/
theorem mintLevel_iff {flags enables : BitVec 15} :
    mintLevel flags enables = true ↔
      ∃ n : Fin 15, flags.getLsbD n = true ∧ enables.getLsbD n = true := by
  rw [mintLevel, bne_iff_ne, ne_eq, BitVec.eq_of_getLsbD_eq_iff]
  simp [Fin.exists_iff, and_left_comm, -BitVec.getLsbD_eq_getElem]

/-! ### Storing a record (steps 2 to 4 of R162) -/

namespace EventUnit

@[simp] theorem store_sequence (r : EventRecord) (e : EventUnit) :
    (e.store r).sequence = e.sequence + 1 := rfl

@[simp] theorem store_enables (r : EventRecord) (e : EventUnit) : (e.store r).enables = e.enables := rfl

theorem store_mint (r : EventRecord) (e : EventUnit) :
    (e.store r).mint = mintLevel (e.store r).flags (e.store r).enables := rfl

theorem store_queue_of_room {r : EventRecord} {e : EventUnit} (h : e.queue.length < 32) :
    (e.store r).queue = e.queue ++ [r] := by
  simp [store, updateMint, Config.eventCapacity, h]

theorem store_queue_of_full {r : EventRecord} {e : EventUnit} (h : 32 ≤ e.queue.length) :
    (e.store r).queue = e.queue := by
  simp [store, updateMint, Config.eventCapacity, Nat.not_lt.mpr h]

theorem store_flags_of_room {r : EventRecord} {e : EventUnit} (h : e.queue.length < 32) :
    (e.store r).flags = setFlag (kindCode r.kind) e.flags := by
  simp [store, updateMint, Config.eventCapacity, h]

/-- A record that is dropped still sets the flag of its kind. -/
theorem store_flags_of_full {r : EventRecord} {e : EventUnit} (h : 32 ≤ e.queue.length) :
    (e.store r).flags = setFlag (kindCode r.kind) (setFlag overflowFlag e.flags) := by
  simp [store, updateMint, Config.eventCapacity, Nat.not_lt.mpr h]

theorem getLsbD_store_flags (r : EventRecord) (e : EventUnit) (n : Fin 15) :
    (e.store r).flags.getLsbD n =
      (e.flags.getLsbD n || n.val == kindCode r.kind ||
        (n.val == 0 && decide (32 ≤ e.queue.length))) := by
  rcases Nat.lt_or_ge e.queue.length 32 with hroom | hfull
  · rw [store_flags_of_room hroom, getLsbD_setFlag, decide_eq_false (Nat.not_le.mpr hroom),
      Bool.and_false, Bool.or_false]
  · rw [store_flags_of_full hfull, getLsbD_setFlag, getLsbD_setFlag, decide_eq_true hfull,
      Bool.and_true, overflowFlag, Bool.or_right_comm]

end EventUnit

/-! ### Creating a record (R162) -/

/-- Settles O16: the new event unit is the stamped record stored, and each clause is what storing does to
one of its fields. -/
theorem recordIsStampedAndStored : Obligations.RecordIsStampedAndStored := by
  refine ⟨fun s kind c v a cause => ?_, fun _ _ _ _ => rfl, fun kind => ?_⟩
  · intro r
    refine ⟨s.ev.store r, rfl, s.ev.store_sequence r, s.ev.store_enables r,
      EventUnit.store_queue_of_room, EventUnit.store_queue_of_full, s.ev.getLsbD_store_flags r, ?_⟩
    rw [EventUnit.store_mint]
    exact mintLevel_iff
  · cases kind <;> rfl

end Sys2Proof.Machine
end

section
/-! The request of a management command: the length and the modes its row gives (R176, R182), and that
every owning rule answers with something other than BUSY and WRONG_MODE, which O24 is about. -/

namespace Sys2Proof.Machine

/-! ### Answers that are neither BUSY nor WRONG_MODE -/

/-- The request has been taken by its owning rule: no answer refuses it for the mode. A held-back
SET_CHANNEL has no answer yet. -/
def State.Answered (t : State) : Prop :=
  t.mgmt.phase = .pending ∧
    ∀ r, t.mgmt.response = some r → r.status ≠ .wrongMode ∧ r.status ≠ .busy

theorem answered_respond {r : Status} {p : List Byte} {s : State}
    (hr : r ≠ .wrongMode ∧ r ≠ .busy := by decide) : (respond r p s).Answered := by
  refine ⟨rfl, fun q hq => ?_⟩
  cases hq
  exact hr

theorem answered_ite {b : Prop} [Decidable b] {t u : State} (ht : t.Answered) (hu : u.Answered) :
    (if b then t else u).Answered := by
  split
  · exact ht
  · exact hu

theorem answered_withChannel {p : List Byte} {s : State} {f : Chan → State}
    (h : ∀ c, (f c).Answered) : (withChannel p s f).Answered := by
  unfold withChannel
  split
  · exact answered_respond
  · exact h _

theorem answered_takeSetChannel (c : Chan) (d : Descriptor) (s : State) :
    (takeSetChannel c d s).Answered := by
  unfold takeSetChannel
  refine answered_ite ⟨rfl, fun r hr => ?_⟩ answered_respond
  cases hr

theorem answered_queueWriteExamined (c : Chan) (d : Descriptor) (v : Byte) (s : State) :
    (queueWriteExamined c d v s).Answered := by
  unfold queueWriteExamined
  split
  · exact answered_respond
  · exact answered_respond
  · exact answered_respond
  · exact answered_respond
  · exact answered_respond

/-! ### The row of a request -/

/-- What R176 tests of a request before its owning rule: the payload against the length (step 4), and the
modes that take it (step 5). -/
structure RequestRow where
  payload : List Byte
  length : Nat
  modes : Acceptance

/-- The rows of the management commands: lengths by R183, modes by R182. -/
def requestRow : Instr → Option RequestRow
  | .getInfo p => some ⟨p, 0, .always⟩
  | .getStatus p => some ⟨p, 0, .always⟩
  | .setDevice p => some ⟨p, 6, .configOnly⟩
  | .setChannel p => some ⟨p, 23, .configOnly⟩
  | .clearChannel p => some ⟨p, 1, .configOnly⟩
  | .getChannel p => some ⟨p, 1, .always⟩
  | .start p => some ⟨p, 0, .configOnly⟩
  | .stop p => some ⟨p, 0, .runOrSafe⟩
  | .enterSafe p => some ⟨p, 0, .runOrSafe⟩
  | .resume p => some ⟨p, 0, .safeOnly⟩
  | .clearFault p => some ⟨p, 1, .runOrSafe⟩
  | .purge p => some ⟨p, 1, .runOnly⟩
  | .queueWrite p => some ⟨p, 2, .runOnly⟩
  | .readEvents p => some ⟨p, 1, .always⟩
  | .readFlags p => some ⟨p, 0, .always⟩
  | .setEnables p => some ⟨p, 2, .always⟩
  | .resetDevice p => some ⟨p, 0, .always⟩
  | _ => none

/-- Every management command is the acceptance by its row, in front of an owning rule that answers. -/
theorem exec_of_requestRow {i : Instr} {row : RequestRow} (h : requestRow i = some row) (s : State) :
    ∃ body : State, body.Answered ∧
      exec i s = .next (takeRequest row.length row.modes row.payload s body) := by
  cases i with
  | getInfo | getStatus | readFlags =>
    cases h
    exact ⟨_, answered_respond, rfl⟩
  | resetDevice =>
    cases h
    refine ⟨_, ?_, rfl⟩
    exact (answered_respond : (respond .ok [] s).Answered)
  | getChannel =>
    cases h
    exact ⟨_, answered_withChannel fun _ => answered_respond, rfl⟩
  | readEvents | setEnables | start | resume | stop | enterSafe =>
    cases h
    exact ⟨_, answered_ite answered_respond answered_respond, rfl⟩
  | setDevice =>
    cases h
    refine ⟨_, ?_, rfl⟩
    split
    · exact answered_respond
    · exact answered_ite answered_respond answered_respond
  | setChannel =>
    cases h
    refine ⟨_, answered_withChannel fun c => ?_, rfl⟩
    dsimp only
    split
    · exact answered_respond
    · exact answered_ite answered_respond (answered_takeSetChannel _ _ _)
  | clearChannel =>
    cases h
    refine ⟨_, answered_withChannel fun c => ?_, rfl⟩
    split
    · exact answered_respond
    · exact answered_respond
  | clearFault =>
    cases h
    refine ⟨_, answered_withChannel fun c => ?_, rfl⟩
    split
    · exact answered_respond
    · exact answered_ite answered_respond (answered_ite answered_respond answered_respond)
  | purge =>
    cases h
    exact ⟨_, answered_withChannel fun _ => answered_ite answered_respond answered_respond, rfl⟩
  | queueWrite =>
    cases h
    refine ⟨_, answered_withChannel fun c => ?_, rfl⟩
    split
    · exact answered_respond
    · exact answered_ite answered_respond (answered_queueWriteExamined _ _ _ _)
  | _ => cases h

/-! ### Taken or refused by the mode (R182) -/

theorem exec_taken {i : Instr} {row : RequestRow} {s : State} (hs : Listening s)
    (h : requestRow i = some row) (hlen : row.payload.length = row.length)
    (hmode : takenIn row.modes s.ctl.mode = true) : ∃ t, exec i s = .next t ∧ t.Answered := by
  obtain ⟨hlive, hphase⟩ := hs
  obtain ⟨body, hbody, hexec⟩ := exec_of_requestRow h s
  rw [takeRequest_taken hlive hphase hlen hmode] at hexec
  exact ⟨body, hexec, hbody⟩

/-- The modes that are no transition are the three the statement names. -/
theorem modeRefusal_eq (m : Mode) :
    modeRefusal m = if m = .config ∨ m = .run ∨ m = .safe then .wrongMode else .busy := by
  cases m <;> rfl

theorem exec_refused {i : Instr} {row : RequestRow} {s : State} (hs : Listening s)
    (h : requestRow i = some row) (hlen : row.payload.length = row.length)
    (hmode : takenIn row.modes s.ctl.mode = false) :
    exec i s = .next (respond
      (if s.ctl.mode = .config ∨ s.ctl.mode = .run ∨ s.ctl.mode = .safe then .wrongMode else .busy)
      [] s) := by
  obtain ⟨hlive, hphase⟩ := hs
  obtain ⟨body, -, hexec⟩ := exec_of_requestRow h s
  rw [hexec, takeRequest_mode hlive hphase hlen hmode, modeRefusal_eq]

/-- START meets SAFE# low (R143). -/
theorem exec_start_safeLow {s : State} (hs : Listening s) (hmode : s.ctl.mode = .config)
    (hlow : s.pins.safeHigh = false) : exec (.start []) s = .next (respond .safeLine [] s) := by
  obtain ⟨hlive, hphase⟩ := hs
  change execStart [] s = _
  rw [execStart, takeRequest_taken hlive hphase List.length_nil (by simp [takenIn, hmode])]
  simp [hlow]

/-- ENTER_SAFE where the part is already (R147). -/
theorem exec_enterSafe_in_safe {s : State} (hs : Listening s) (hmode : s.ctl.mode = .safe) :
    exec (.enterSafe []) s = .next (respond .ok [] s) := by
  obtain ⟨hlive, hphase⟩ := hs
  change execEnterSafe [] s = _
  rw [execEnterSafe, takeRequest_taken hlive hphase List.length_nil (by simp [takenIn, hmode])]
  simp [hmode]

/-- Settles O24: a clause per class of modes of R182, each by the rows of its commands. -/
theorem commandsAreTakenByMode : Obligations.CommandsAreTakenByMode := by
  intro s hs refused taken
  refine ⟨exec_taken hs rfl rfl rfl, exec_taken hs rfl rfl rfl, fun _ => exec_taken hs rfl rfl rfl,
    fun _ => exec_taken hs rfl rfl rfl, exec_taken hs rfl rfl rfl, fun _ _ => exec_taken hs rfl rfl rfl,
    exec_taken hs rfl rfl rfl, fun hconfig => ?_, fun hconfig => ?_, fun hmode => ?_, fun hrun hsafe => ?_,
    fun hsafe => ?_, fun hsafe => ?_, fun hrun => ?_, fun hrun => ?_, exec_start_safeLow hs,
    exec_enterSafe_in_safe hs⟩
  · have h : takenIn .configOnly s.ctl.mode = true := by simp [takenIn, hconfig]
    exact ⟨fun _ hp => exec_taken hs rfl hp h, fun _ hp => exec_taken hs rfl hp h,
      fun _ => exec_taken hs rfl rfl h, exec_taken hs rfl rfl h⟩
  · have h : takenIn .configOnly s.ctl.mode = false := by simp [takenIn, hconfig]
    exact ⟨fun _ hp => exec_refused hs rfl hp h, fun _ hp => exec_refused hs rfl hp h,
      fun _ => exec_refused hs rfl rfl h, exec_refused hs rfl rfl h⟩
  · have h : takenIn .runOrSafe s.ctl.mode = true := by simp [takenIn, hmode]
    exact ⟨exec_taken hs rfl rfl h, exec_taken hs rfl rfl h, fun _ => exec_taken hs rfl rfl h⟩
  · have h : takenIn .runOrSafe s.ctl.mode = false := by simp [takenIn, hrun, hsafe]
    exact ⟨exec_refused hs rfl rfl h, exec_refused hs rfl rfl h, fun _ => exec_refused hs rfl rfl h⟩
  · have h : takenIn .safeOnly s.ctl.mode = true := by simp [takenIn, hsafe]
    exact exec_taken hs rfl rfl h
  · have h : takenIn .safeOnly s.ctl.mode = false := by simp [takenIn, hsafe]
    exact exec_refused hs rfl rfl h
  · have h : takenIn .runOnly s.ctl.mode = true := by simp [takenIn, hrun]
    exact ⟨fun _ => exec_taken hs rfl rfl h, fun _ _ => exec_taken hs rfl rfl h⟩
  · have h : takenIn .runOnly s.ctl.mode = false := by simp [takenIn, hrun]
    exact ⟨fun _ => exec_refused hs rfl rfl h, fun _ _ => exec_refused hs rfl rfl h⟩

end Sys2Proof.Machine
end

section
/-! GET_INFO and its block (R184), which O18 is about. -/

namespace Sys2Proof.Machine

/-- Settles O18: GET_INFO is taken in every mode, and its answer reads nothing of the state. -/
theorem getInfoReturnsIdentityBlock : Obligations.GetInfoReturnsIdentityBlock := by
  rintro s ⟨hlive, hphase⟩
  change execGetInfo [] s = .next (respond .ok infoBlock s)
  rw [execGetInfo, takeRequest_taken hlive hphase List.length_nil rfl]

end Sys2Proof.Machine
end

section
/-! GET_CHANNEL and the channel block (R187, R191): the group fields of a status record, the layout of the
record byte by byte, and the queue entries behind it, which O20 is about. -/

namespace Sys2Proof.Machine

/-! ### Token held and waiter position (R78) -/

theorem groupOf_eq_some_iff {s : State} {c : Chan} {g : Group} :
    s.groupOf c = some g ↔ ∃ d, (s.chan c).desc = some d ∧ d.group = some g :=
  Option.bind_eq_some_iff

theorem tokenHeld_iff {s : State} {c : Chan} :
    s.tokenHeld c = true ↔ ∃ g, s.groupOf c = some g ∧ (s.group g).holder = some c := by
  unfold State.tokenHeld
  split <;> simp [*]

/-- The first index at which `c` stands cuts the list at its first occurrence. -/
theorem findIdx?_beq_eq_some_iff {l : List Chan} {c : Chan} {i : Nat} :
    l.findIdx? (· == c) = some i ↔
      ∃ ahead behind, l = ahead ++ c :: behind ∧ c ∉ ahead ∧ i = ahead.length := by
  constructor
  · intro h
    obtain ⟨hi, hat, hbefore⟩ := List.findIdx?_eq_some_iff_getElem.mp h
    refine ⟨l.take i, l.drop (i + 1), ?_, fun hmem => ?_, by simp; omega⟩
    · rw [← beq_iff_eq.mp hat, List.getElem_cons_drop, List.take_append_drop]
    · obtain ⟨j, hj, hc⟩ := List.mem_take_iff_getElem.mp hmem
      exact hbefore j (by omega) (beq_iff_eq.mpr hc)
  · rintro ⟨ahead, behind, rfl, hnot, rfl⟩
    have hahead : ahead.findIdx? (· == c) = none :=
      List.findIdx?_eq_none_iff.mpr fun k hk => beq_eq_false_iff_ne.mpr (ne_of_mem_of_not_mem hk hnot)
    simp [List.findIdx?_append, hahead, List.findIdx?_cons]

theorem waiterPosition_eq_some_iff {s : State} {c : Chan} {n : Nat} :
    s.waiterPosition c = some n ↔
      ∃ g, s.groupOf c = some g ∧
        ∃ ahead behind, (s.group g).waiters = ahead ++ c :: behind ∧ c ∉ ahead ∧
          n = ahead.length + 1 := by
  unfold State.waiterPosition
  split
  · simp [*]
  · rename_i g hg
    simp only [hg, Option.map_eq_some_iff, findIdx?_beq_eq_some_iff, Option.some.injEq,
      exists_eq_left']
    constructor
    · rintro ⟨i, ⟨ahead, behind, hsplit, hnot, rfl⟩, rfl⟩
      exact ⟨ahead, behind, hsplit, hnot, rfl⟩
    · rintro ⟨ahead, behind, hsplit, hnot, rfl⟩
      exact ⟨_, ⟨ahead, behind, hsplit, hnot, rfl⟩, rfl⟩

/-! ### Bytes of the layouts -/

theorem getLsbD_bitByte (b : Bool) (n i : Nat) :
    (bitByte b n).getLsbD i = (b && (decide (i < 8) && decide (n = i))) := by
  cases b with
  | false => simp [bitByte]
  | true =>
    change (BitVec.ofNat 8 (2 ^ n)).getLsbD i = _
    rw [BitVec.getLsbD_ofNat, Nat.testBit_two_pow, Bool.true_and]

/-- Four bytes, most significant first, give the number back. -/
theorem longBytes_append (t : Long) (rest : List Byte) :
    halfAt (longBytes t ++ rest) 0 ++ halfAt (longBytes t ++ rest) 2 = t := by
  change (t.extractLsb' 24 8 ++ t.extractLsb' 16 8) ++ (t.extractLsb' 8 8 ++ t.extractLsb' 0 8) = t
  have hhigh : t.extractLsb' 24 8 ++ t.extractLsb' 16 8 = t.extractLsb' 16 16 :=
    BitVec.extractLsb'_append_extractLsb'_eq_extractLsb' rfl
  have hlow : t.extractLsb' 8 8 ++ t.extractLsb' 0 8 = t.extractLsb' 0 16 :=
    BitVec.extractLsb'_append_extractLsb'_eq_extractLsb' rfl
  have hall : t.extractLsb' 16 16 ++ t.extractLsb' 0 16 = t.extractLsb' 0 32 :=
    BitVec.extractLsb'_append_extractLsb'_eq_extractLsb' rfl
  rw [hhigh, hlow, hall, BitVec.extractLsb'_eq_self]

theorem entryBytes_kind (e : Entry) :
    byteAt (entryBytes e) 0 =
      (match e.kind with
        | .set => 1
        | .train => 2
        | .pause => 3) + (if e.origin = .mgmt then 0x80 else 0x00) := by
  rcases e with ⟨kind, operand, origin⟩
  cases kind <;> cases origin <;> simp [entryBytes, byteAt, bitByte]

theorem length_entriesBytes (q : List Entry) : (q.map entryBytes).flatten.length = 2 * q.length := by
  induction q with
  | nil => rfl
  | cons e q ih =>
    rw [List.map_cons, List.flatten_cons, List.length_append, ih]
    simp [entryBytes]
    omega

/-- Each entry takes two bytes, so entry `i` stands at offset `2 * i`. -/
theorem byteAt_entriesBytes {q : List Entry} {i : Nat} {e : Entry} (h : q[i]? = some e) :
    byteAt (q.map entryBytes).flatten (2 * i) = byteAt (entryBytes e) 0 ∧
      byteAt (q.map entryBytes).flatten (2 * i + 1) = byteAt (entryBytes e) 1 := by
  induction q generalizing i with
  | nil => simp at h
  | cons x q ih =>
    cases i with
    | zero =>
      cases h
      exact ⟨rfl, rfl⟩
    | succ i => exact ih h

/-! ### The status record (R191) -/

/-- The record is 13 bytes and the entries. -/
theorem length_recordBytes (s : State) (c : Chan) :
    (recordBytes s c).length = 13 + 2 * (s.chan c).queue.length := by
  rw [← length_entriesBytes]
  simp [recordBytes, longBytes]
  omega

/-- Behind its 13 bytes the record holds the entries. -/
theorem byteAt_recordBytes_entries (s : State) (c : Chan) (n : Nat) :
    byteAt (recordBytes s c) (13 + n) = byteAt ((s.chan c).queue.map entryBytes).flatten n := by
  rw [Nat.add_comm]
  rfl

theorem stateCode_toNat (st : ChanState) :
    (stateCode st).toNat =
      (match st with
        | .unconfigured => 0
        | .safed => 1
        | .resting => 2
        | .waiting => 3
        | .holding => 4
        | .held => 5
        | .mark => 6
        | .space => 7
        | .pausing => 8
        | .recovering => 9
        | .fault => 10) := by
  cases st <;> rfl

theorem faultCode_toNat (f : Option LastFault) :
    (faultCode f).toNat =
      (match f.map (·.cause) with
        | none => 0
        | some .feedback => 1
        | some .driveTimeout => 2) := by
  rcases f with _ | ⟨cause, timestamp⟩
  · rfl
  · cases cause <;> rfl

/-- Bit `n` of the indicators is the indicator placed there, and no other. -/
theorem getLsbD_indicators (s : State) (c : Chan) :
    (indicators s c).getLsbD 0 = (s.chan c).target.isSome ∧
    (indicators s c).getLsbD 1 = (s.chan c).driven.isSome ∧
    (indicators s c).getLsbD 2 = (s.chan c).requested.isSome ∧
    (indicators s c).getLsbD 3 = (s.waiterPosition c).isSome ∧
    (indicators s c).getLsbD 4 = (s.chan c).lastFault.isSome ∧
    (indicators s c).getLsbD 5 = s.tokenHeld c ∧
    (indicators s c).getLsbD 6 = (s.chan c).abortPending ∧
    (indicators s c).getLsbD 7 = (s.chan c).stuckReported := by
  simp only [indicators, BitVec.getLsbD_or, getLsbD_bitByte]
  simp

theorem timestamp_recordBytes (s : State) (c : Chan) :
    halfAt (recordBytes s c) 8 ++ halfAt (recordBytes s c) 10 =
      ((s.chan c).lastFault.map (·.timestamp)).getD 0 := by
  refine (longBytes_append _ []).trans ?_
  cases (s.chan c).lastFault <;> rfl

/-! ### GET_CHANNEL -/

theorem exec_getChannel {s : State} (hs : Listening s) (c : Chan) :
    exec (.getChannel [BitVec.ofNat 8 c.val]) s = .next (respond .ok (channelBlock s c) s) := by
  obtain ⟨hlive, hphase⟩ := hs
  have hbyte : (byteAt [BitVec.ofNat 8 c.val] 0).toNat = c.val := by
    change (BitVec.ofNat 8 c.val).toNat = c.val
    rw [BitVec.toNat_ofNat]
    omega
  change execGetChannel [BitVec.ofNat 8 c.val] s = _
  rw [execGetChannel, takeRequest_taken hlive hphase List.length_singleton rfl, withChannel_good hbyte]

theorem channelBlock_unconfigured {s : State} {c : Chan} (h : (s.chan c).desc = none) :
    channelBlock s c = [BitVec.ofNat 8 c.val, 0x00] ++ recordBytes s c := by
  simp [channelBlock, h, natByte]

theorem channelBlock_configured {s : State} {c : Chan} {d : Descriptor} (h : (s.chan c).desc = some d) :
    channelBlock s c = [BitVec.ofNat 8 c.val, 0x01] ++ descriptorBytes d ++ recordBytes s c := by
  simp [channelBlock, h, natByte]

/-- Settles O20: the block is chosen by the descriptor, and each clause on the record is one byte of its
layout. -/
theorem getChannelReturnsChannelBlock : Obligations.GetChannelReturnsChannelBlock := by
  refine ⟨fun s c => ⟨?_, fun n => ?_⟩, fun s c hs => ⟨recordBytes s c, ?_, length_recordBytes s c, ?_⟩⟩
  · simp only [tokenHeld_iff, groupOf_eq_some_iff]
    exact ⟨fun ⟨g, ⟨d, hd, hg⟩, hholder⟩ => ⟨d, g, hd, hg, hholder⟩,
      fun ⟨d, g, hd, hg, hholder⟩ => ⟨g, ⟨d, hd, hg⟩, hholder⟩⟩
  · simp only [waiterPosition_eq_some_iff, groupOf_eq_some_iff]
    exact ⟨fun ⟨g, ⟨d, hd, hg⟩, ahead, behind, hplace⟩ => ⟨d, g, ahead, behind, hd, hg, hplace⟩,
      fun ⟨d, g, ahead, behind, hd, hg, hplace⟩ => ⟨g, ⟨d, hd, hg⟩, ahead, behind, hplace⟩⟩
  · rw [exec_getChannel hs]
    cases hd : (s.chan c).desc with
    | none => exact .inl ⟨rfl, by rw [channelBlock_unconfigured hd]⟩
    | some d => exact .inr ⟨d, rfl, by rw [channelBlock_configured hd]⟩
  · obtain ⟨htarget, hdriven, hrequested, hwaiter, hfault, htoken, habort, hstuck⟩ :=
      getLsbD_indicators s c
    refine ⟨stateCode_toNat _, htarget, hdriven, hrequested, hwaiter, hfault, htoken, habort, hstuck, rfl, rfl,
      rfl, rfl, rfl, faultCode_toNat _, timestamp_recordBytes s c, rfl, fun i e he => ?_⟩
    obtain ⟨hkind, hoperand⟩ := byteAt_entriesBytes he
    refine ⟨?_, ?_⟩
    · exact (byteAt_recordBytes_entries s c (2 * i)).trans (hkind.trans (entryBytes_kind e))
    · have hoffset : 14 + 2 * i = 13 + (2 * i + 1) := by omega
      rw [hoffset]
      exact (byteAt_recordBytes_entries s c (2 * i + 1)).trans hoperand

end Sys2Proof.Machine
end

section
/-! What the operations inside an event leave alone: the mode controller, the management port, the pins and
the waiting commands as they are, and the event unit changed by storing records alone (R162). An operation of
one channel moreover leaves the descriptors, the bus, the pending drives and every other channel that waits for
no token alone. Every invariant over all commands starts from these lemmas, one for each operation. -/

namespace Sys2Proof.Machine

/-! ### Records stored one after another -/

/-- The event unit `f` is `e` after some records were stored, each stamped with the number at which the
counter then stood (R162). -/
inductive Logged (e : EventUnit) : EventUnit → Prop where
  | refl : Logged e e
  | store {f : EventUnit} (r : EventRecord) (hr : r.sequence = f.sequence) (h : Logged e f) :
      Logged e (f.store r)

theorem Logged.trans {e f g : EventUnit} (h : Logged e f) (k : Logged f g) : Logged e g := by
  induction k with
  | refl => exact h
  | store r hr _ ih => exact ih.store r hr

/-! ### Operations that touch no mode, no pin and no request -/

/-- `t` comes from `s` by an operation that leaves the mode controller, the management port, the pins and the
waiting commands alone, and the event unit but for the records it creates. -/
structure Calm (s t : State) : Prop where
  ctl : t.ctl = s.ctl
  mgmt : t.mgmt = s.mgmt
  pins : t.pins = s.pins
  pending : t.pending = s.pending
  log : Logged s.ev t.ev

/-- An operation that does not name these blocks at all. -/
theorem Calm.of_eq {s t : State}
    (h : (t.ctl, t.mgmt, t.pins, t.pending, t.ev) = (s.ctl, s.mgmt, s.pins, s.pending, s.ev)) :
    Calm s t := by
  simp only [Prod.mk.injEq] at h
  obtain ⟨hctl, hmgmt, hpins, hpending, hev⟩ := h
  exact ⟨hctl, hmgmt, hpins, hpending, hev ▸ .refl⟩

theorem Calm.refl (s : State) : Calm s s := .of_eq rfl

theorem Calm.trans {s t u : State} (h : Calm s t) (k : Calm t u) : Calm s u :=
  ⟨k.ctl.trans h.ctl, k.mgmt.trans h.mgmt, k.pins.trans h.pins, k.pending.trans h.pending,
    h.log.trans k.log⟩

theorem Calm.ite {s t u : State} {p : Prop} [Decidable p] (ht : Calm s t) (hu : Calm s u) :
    Calm s (if p then t else u) := by
  split <;> assumption

theorem Calm.onEvent {s t : State} {b : Bool} (h : Calm s t) : Calm s (s.onEvent b t) :=
  .ite h (.refl s)

/-! ### Operations of one channel -/

/-- The eight millisecond timers of a channel, of its cadence and of its comparison. -/
def Channel.timers (x : Channel) :
    Option Nat × Option Nat × Option Nat × Option Nat × Option Nat × Option Nat × Option Nat × Option Nat :=
  (x.minHold, x.maxHold, x.markTimer, x.spaceTimer, x.pauseTimer, x.recovery, x.cmp.bind (·.settle),
    x.cmp.bind (·.filter))

/-- No timer has come to its end that had not: only a tick brings one there (R155). -/
structure Fresh (x y : Channel) : Prop where
  minHold : y.minHold = some 0 → x.minHold = some 0
  maxHold : y.maxHold = some 0 → x.maxHold = some 0
  markTimer : y.markTimer = some 0 → x.markTimer = some 0
  spaceTimer : y.spaceTimer = some 0 → x.spaceTimer = some 0
  pauseTimer : y.pauseTimer = some 0 → x.pauseTimer = some 0
  recovery : y.recovery = some 0 → x.recovery = some 0
  settle : y.cmp.bind (·.settle) = some 0 → x.cmp.bind (·.settle) = some 0
  filter : y.cmp.bind (·.filter) = some 0 → x.cmp.bind (·.filter) = some 0

theorem Fresh.of_eq {x y : Channel} (h : y.timers = x.timers) : Fresh x y := by
  simp only [Channel.timers, Prod.mk.injEq] at h
  obtain ⟨hmin, hmax, hmark, hspace, hpause, hrecovery, hsettle, hfilter⟩ := h
  exact ⟨(hmin ▸ ·), (hmax ▸ ·), (hmark ▸ ·), (hspace ▸ ·), (hpause ▸ ·), (hrecovery ▸ ·), (hsettle ▸ ·), (hfilter ▸ ·)⟩

theorem Fresh.refl (x : Channel) : Fresh x x := .of_eq rfl

theorem Fresh.trans {x y z : Channel} (h : Fresh x y) (k : Fresh y z) : Fresh x z :=
  ⟨h.minHold ∘ k.minHold, h.maxHold ∘ k.maxHold, h.markTimer ∘ k.markTimer, h.spaceTimer ∘ k.spaceTimer,
    h.pauseTimer ∘ k.pauseTimer, h.recovery ∘ k.recovery, h.settle ∘ k.settle, h.filter ∘ k.filter⟩

/-- A timer just started is not due. -/
theorem startTimer_ne_due (n : Nat) : startTimer n ≠ some 0 := by
  unfold startTimer
  split <;> simp

theorem due_of_started {n : Nat} {p : Prop} (h : startTimer n = some 0) : p := absurd h (startTimer_ne_due n)

theorem due_of_stopped {p : Prop} (h : (none : Option Nat) = some 0) : p := nomatch h

/-- The timers of the cadence stopped. -/
theorem Fresh.stopped {x y : Channel}
    (h : (y.minHold, y.maxHold, y.markTimer, y.spaceTimer, y.pauseTimer, y.recovery) = (none, none, none, none, none, none))
    (hcmp : y.cmp = x.cmp) : Fresh x y := by
  simp only [Prod.mk.injEq] at h
  obtain ⟨hmin, hmax, hmark, hspace, hpause, hrecovery⟩ := h
  refine ⟨?_, ?_, ?_, ?_, ?_, ?_, ?_, ?_⟩
  · exact hmin ▸ due_of_stopped
  · exact hmax ▸ due_of_stopped
  · exact hmark ▸ due_of_stopped
  · exact hspace ▸ due_of_stopped
  · exact hpause ▸ due_of_stopped
  · exact hrecovery ▸ due_of_stopped
  · exact hcmp ▸ id
  · exact hcmp ▸ id

/-- A comparison whose timers are as they were, stopped or just started. -/
structure FreshComparison (k l : Comparison) : Prop where
  settle : l.settle = some 0 → k.settle = some 0
  filter : l.filter = some 0 → k.filter = some 0

/-- A change of a channel's record that keeps its descriptor and its transition mark, loses no pending drive, and brings
no timer to its end. -/
structure Tame (x y : Channel) : Prop where
  desc : y.desc = x.desc
  mark : y.transitionMark = x.transitionMark
  slot : x.slot.isSome = true → y.slot.isSome = true
  fresh : Fresh x y

/-- The record of a channel that a token has been granted to: it has requested one, and does so no more. -/
structure Granted (x y : Channel) : Prop where
  requested : x.requested.isSome = true
  served : y.requested = none
  state : y.state = .holding ∨ y.state = .mark

/-- `t` comes from `s` by an operation of channel `c`: beside what `Calm` names it leaves the bus, the
descriptors and the pending drives alone, sets transition marks in a transition only, with their drives, and
clears none, ends a stall at most, and changes another channel only when that one has requested a token (R43,
R62). -/
structure Local (c : Chan) (s t : State) : Prop extends Calm s t where
  down : t.down = s.down
  desc : ∀ k, (t.chan k).desc = (s.chan k).desc
  mark : ∀ k, (t.chan k).transitionMark = true → (s.chan k).transitionMark = true ∨
    s.ctl.mode.isTransition = true ∧ (t.chan k).slot.isSome = true
  marked : ∀ k, (s.chan k).transitionMark = true → (t.chan k).transitionMark = true
  slot : ∀ k, (s.chan k).slot.isSome = true → (t.chan k).slot.isSome = true
  port : t.port = s.port ∨ s.port.state = .stalled ∧ ∃ e a, t.port = endedPort s.port e a
  fresh : ∀ k, Fresh (s.chan k) (t.chan k)
  others : ∀ k, k ≠ c → t.chan k = s.chan k ∨ Granted (s.chan k) (t.chan k)

/-- An operation that leaves the channels, the bus and the port alone. -/
theorem Local.of_calm {c : Chan} {s t : State} (h : Calm s t)
    (hsame : (t.channels, t.down, t.port) = (s.channels, s.down, s.port)) : Local c s t := by
  simp only [Prod.mk.injEq] at hsame
  obtain ⟨hchannels, hdown, hport⟩ := hsame
  have hchan (k : Chan) : t.chan k = s.chan k := by rw [State.chan, State.chan, hchannels]
  exact ⟨h, hdown, fun k => by rw [hchan], fun k hk => .inl (by rwa [hchan] at hk),
    fun k => by rw [hchan]; exact id, fun k => by rw [hchan]; exact id, .inl hport,
    fun k => by rw [hchan]; exact .refl _, fun k _ => .inl (hchan k)⟩

theorem Local.refl (c : Chan) (s : State) : Local c s s := .of_calm (.refl s) rfl

theorem endedPort_not_stalled (p : HostPort) (e : EndKind) (a : Option Byte) :
    (endedPort p e a).state ≠ .stalled := by
  unfold endedPort
  split <;> simp [HostPort.idle]

theorem Local.trans {c : Chan} {s t u : State} (h : Local c s t) (k : Local c t u) : Local c s u where
  toCalm := h.toCalm.trans k.toCalm
  down := k.down.trans h.down
  desc j := (k.desc j).trans (h.desc j)
  mark j hj := by
    rcases k.mark j hj with hm | ⟨hmode, hslot⟩
    · exact (h.mark j hm).imp_right fun ⟨hmode, hslot⟩ => ⟨hmode, k.slot j hslot⟩
    · exact .inr ⟨by rwa [h.ctl] at hmode, hslot⟩
  marked j := k.marked j ∘ h.marked j
  slot j := k.slot j ∘ h.slot j
  port := by
    rcases h.port with hst | ⟨hstalled, e, a, hst⟩
    · rw [← hst]
      exact k.port
    · rcases k.port with htu | ⟨hagain, -⟩
      · exact .inr ⟨hstalled, e, a, htu.trans hst⟩
      · rw [hst] at hagain
        exact absurd hagain (endedPort_not_stalled _ e a)
  fresh j := (h.fresh j).trans (k.fresh j)
  others j hj := by
    rcases h.others j hj with hst | hgranted
    · rw [← hst]
      exact k.others j hj
    · rcases k.others j hj with htu | hagain
      · rw [htu]
        exact .inr hgranted
      · have hrequested := hagain.requested
        rw [hgranted.served] at hrequested
        cases hrequested

theorem Local.ite {c : Chan} {s t u : State} {p : Prop} [Decidable p] (ht : Local c s t)
    (hu : Local c s u) : Local c s (if p then t else u) := by
  split <;> assumption

/-- An operation that grants its channel a token is an operation of every other channel. -/
theorem Local.recenter {c w : Chan} {s t : State} (h : Local w s t) (hw : Granted (s.chan w) (t.chan w)) :
    Local c s t :=
  { h with
    others := fun k _ => by
      by_cases hk : k = w
      · exact .inr (hk ▸ hw)
      · exact h.others k hk }

/-! ### The shared operations -/

theorem calm_modChan (c : Chan) (f : Channel → Channel) (s : State) : Calm s (modChan c f s) := .of_eq rfl

theorem local_modChan {c : Chan} {f : Channel → Channel} {s : State} (h : Tame (s.chan c) (f (s.chan c))) :
    Local c s (modChan c f s) where
  toCalm := calm_modChan c f s
  down := rfl
  desc k := by
    rw [modChan_chan]
    split
    · rename_i hk
      rw [h.desc, hk]
    · rfl
  mark k hk := by
    rw [modChan_chan] at hk
    split at hk
    · rename_i hc
      exact .inl (by rwa [h.mark, ← hc] at hk)
    · exact .inl hk
  marked k hk := by
    rw [modChan_chan]
    split
    · rename_i hc
      rwa [h.mark, ← hc]
    · exact hk
  slot k hk := by
    rw [modChan_chan]
    split
    · rename_i hc
      exact h.slot (hc ▸ hk)
    · exact hk
  port := .inl rfl
  fresh k := by
    rw [modChan_chan]
    split
    · rename_i hc
      exact hc ▸ h.fresh
    · exact .refl _
  others k hk := .inl (modChan_chan_ne s c k f hk)

theorem local_requestDrive (c : Chan) (v : Byte) (s : State) : Local c s (requestDrive c v s) :=
  local_modChan ⟨rfl, rfl, fun _ => rfl, .of_eq rfl⟩

theorem local_setGroup (c : Chan) (g : Group) (x : GroupState) (s : State) : Local c s (s.setGroup g x) :=
  .of_calm (.of_eq rfl) rfl

theorem calm_record (k : EventKind) (c : Option Chan) (v : Option Byte) (a : Option Addr)
    (cause : Option SafeCause) (s : State) : Calm s (record k c v a cause s) :=
  ⟨rfl, rfl, rfl, rfl, .store _ rfl .refl⟩

theorem calm_recordChannel (k : EventKind) (c : Chan) (v : Byte) (s : State) :
    Calm s (recordChannel k c v s) :=
  calm_record k (some c) (some v) none none s

theorem local_record (j : Chan) (k : EventKind) (c : Option Chan) (v : Option Byte) (a : Option Addr)
    (cause : Option SafeCause) (s : State) : Local j s (record k c v a cause s) :=
  .of_calm (calm_record k c v a cause s) rfl

theorem local_recordChannel (j : Chan) (k : EventKind) (c : Chan) (v : Byte) (s : State) :
    Local j s (recordChannel k c v s) :=
  .of_calm (calm_recordChannel k c v s) rfl

theorem calm_arbitrate (s : State) : Calm s (arbitrate s) := by
  obtain ⟨-, hctl, hev, hmgmt, hpins, hpending⟩ := arbitrate_frame s
  exact .of_eq (by rw [hctl, hev, hmgmt, hpins, hpending])

theorem calm_freeBus (s : State) : Calm s (freeBus s) := .of_eq rfl

theorem calm_answerHost (e : EndKind) (a : Option Byte) (s : State) : Calm s (answerHost e a s) := by
  rw [answerHost_frame]
  exact .of_eq rfl

theorem answerHost_eq (e : EndKind) (a : Option Byte) (s : State) :
    answerHost e a s = { s with port := endedPort s.port e a } := by
  unfold answerHost endedPort
  split <;> rfl

/-- An answer that ends a stall. -/
theorem local_answerHost {s : State} (h : s.port.state = .stalled) (c : Chan) (e : EndKind)
    (a : Option Byte) : Local c s (answerHost e a s) := by
  have hself := Local.refl c s
  rw [answerHost_eq]
  exact
    { toCalm := .of_eq rfl, down := rfl, desc := hself.desc, mark := hself.mark, marked := hself.marked, slot := hself.slot,
      port := .inr ⟨h, e, a, rfl⟩, fresh := hself.fresh, others := hself.others }

theorem local_enterHolding (c : Chan) (v : Byte) (s : State) : Local c s (enterHolding c v s) :=
  (local_modChan ⟨rfl, rfl, id, due_of_stopped, due_of_stopped, id, id, id, id, id, id⟩).trans (local_requestDrive c v _)

theorem local_enterMark (c : Chan) (p : TrainPart) (n : Nat) (s : State) : Local c s (enterMark c p n s) :=
  (local_modChan ⟨rfl, rfl, id, id, id, due_of_stopped, id, id, id, id, id⟩).trans (local_requestDrive c p.markValue _)

theorem local_enterWaiting (c : Chan) (q : Byte) (s : State) : Local c s (enterWaiting c q s) :=
  local_modChan ⟨rfl, rfl, id, .of_eq rfl⟩

theorem enterHolding_granted {c : Chan} {v : Byte} {s : State} (h : (s.chan c).requested.isSome = true) :
    Granted (s.chan c) ((enterHolding c v s).chan c) := by
  rw [enterHolding, requestDrive, modChan_chan_self, modChan_chan_self]
  exact ⟨h, rfl, .inl rfl⟩

theorem enterMark_granted {c : Chan} {p : TrainPart} {n : Nat} {s : State} (h : (s.chan c).requested.isSome = true) :
    Granted (s.chan c) ((enterMark c p n s).chan c) := by
  rw [enterMark, requestDrive, modChan_chan_self, modChan_chan_self]
  exact ⟨h, rfl, .inr rfl⟩

/-- A grant goes to a channel that has requested the token, so it is an operation of any channel. -/
theorem local_deliverGrant (c w : Chan) (s : State) : Local c s (deliverGrant w s) := by
  rcases deliverGrant_cases w s with ⟨d, q, -, hq, ⟨p, -, h⟩ | ⟨p, -, h⟩⟩ | ⟨-, h⟩ <;> rw [h]
  · exact (local_enterHolding w q s).recenter (enterHolding_granted (by simp [hq]))
  · exact (local_enterMark w p q.toNat s).recenter (enterMark_granted (by simp [hq]))
  · exact .refl c s

theorem local_takeToken (c : Chan) (g : Option Group) (s : State) : Local c s (takeToken c g s) := by
  cases g
  · exact .refl c s
  · exact local_setGroup c _ _ s

theorem local_joinWaiters (c : Chan) (g : Option Group) (s : State) : Local c s (joinWaiters c g s) := by
  cases g
  · exact .refl c s
  · exact local_setGroup c _ _ s

theorem local_passToken (c : Chan) (g : Group) (s : State) : Local c s (passToken g s) := by
  unfold passToken
  split
  · exact local_setGroup c _ _ s
  · exact (local_setGroup c _ _ s).trans (local_deliverGrant c _ _)

theorem local_releaseToken (c : Chan) (s : State) : Local c s (releaseToken c s) := by
  unfold releaseToken
  split
  · exact .refl c s
  · exact .ite (local_passToken c _ s) (.refl c s)

theorem local_withdraw (c : Chan) (s : State) : Local c s (withdraw c s) := by
  unfold withdraw
  split
  · exact .refl c s
  · exact local_setGroup c _ _ s

theorem local_giveUpStall (c : Chan) (concerns : Chan → Bool) (s : State) :
    Local c s (giveUpStall concerns s) := by
  rcases giveUpStall_cases concerns s with h | ⟨w, -, hstalled, -, h⟩ <;> rw [h]
  · exact .refl c s
  · refine (local_recordChannel c .blockedWrite w.channel w.data s).trans (local_answerHost ?_ c _ _)
    exact hstalled

/-- The safe drive of a fault, with its mark in ENTERING_RUN and ENTERING_SAFE (R103). -/
theorem requestFaultDrive_eq (c : Chan) (v : Byte) (s : State) :
    requestFaultDrive c v s = s.setChan c
      { s.chan c with
        slot := some v
        transitionMark :=
          if s.ctl.mode = .enteringRun ∨ s.ctl.mode = .enteringSafe then true
          else (s.chan c).transitionMark } := by
  by_cases h : s.ctl.mode = .enteringRun ∨ s.ctl.mode = .enteringSafe <;>
    simp [requestFaultDrive, requestDrive, modChan, h]

/-- The mark of a fault is set in a transition only, and with its drive. -/
theorem local_requestFaultDrive (c : Chan) (v : Byte) (s : State) :
    Local c s (requestFaultDrive c v s) := by
  rw [requestFaultDrive_eq]
  refine ⟨.of_eq rfl, rfl, fun k => ?_, fun k hk => ?_, fun k hk => ?_, fun k hk => ?_, .inl rfl, fun k => ?_,
    fun k hk => .inl (setChan_chan_ne s c k _ hk)⟩ <;> by_cases hc : k = c
  · rw [hc, setChan_chan_self]
  · rw [setChan_chan_ne s c k _ hc]
  · subst hc
    rw [setChan_chan_self] at hk ⊢
    dsimp only at hk
    split at hk
    · rename_i hmode
      refine .inr ⟨?_, rfl⟩
      rcases hmode with hmode | hmode <;> rw [hmode] <;> rfl
    · exact .inl hk
  · rw [setChan_chan_ne s c k _ hc] at hk
    exact .inl hk
  · subst hc
    rw [setChan_chan_self]
    dsimp only
    split
    · rfl
    · exact hk
  · rwa [setChan_chan_ne s c k _ hc]
  · rw [hc, setChan_chan_self]
    rfl
  · rwa [setChan_chan_ne s c k _ hc]
  · rw [hc, setChan_chan_self]
    exact .of_eq rfl
  · rw [setChan_chan_ne s c k _ hc]
    exact .refl _

theorem local_faultChannel (c : Chan) (cause : FaultCause) (s : State) :
    Local c s (faultChannel c cause s) := by
  unfold faultChannel
  split
  · exact .refl c s
  · refine Local.trans ?_ (local_giveUpStall c _ _)
    refine Local.trans ?_ (local_withdraw c _)
    refine Local.trans ?_ (local_releaseToken c _)
    exact (local_modChan ⟨rfl, rfl, id, .stopped rfl rfl⟩).trans
      (local_requestFaultDrive c _ _)

/-! ### The feedback supervisor -/

theorem FreshComparison.refl (k : Comparison) : FreshComparison k k := ⟨id, id⟩

theorem fresh_settling (f : FeedbackPart) (level : Bool) (k : Comparison) :
    FreshComparison k (.settling f level) := ⟨due_of_started, due_of_stopped⟩

theorem fresh_unknown (k : Comparison) : FreshComparison k .unknown := ⟨due_of_stopped, due_of_stopped⟩

theorem fresh_toAgree (k : Comparison) : FreshComparison k k.toAgree := ⟨due_of_stopped, due_of_stopped⟩

theorem fresh_toFiltering (k : Comparison) : FreshComparison k k.toFiltering :=
  ⟨due_of_stopped, fun h => due_of_started (n := Config.filterTime) h⟩

theorem fresh_completion (f : FeedbackPart) (v : Byte) (k : Comparison) : FreshComparison k (k.completion f v) := by
  unfold Comparison.completion
  dsimp only
  split
  · exact fresh_settling f _ k
  · split
    · exact .refl k
    · exact fresh_settling f _ k
  · split
    · exact .refl k
    · exact fresh_settling f _ k
  · split
    · exact .refl k
    · exact fresh_settling f _ k
  · split
    · exact fresh_toFiltering k
    · exact fresh_settling f _ k

theorem fresh_settled (sense : Bool) (k : Comparison) : FreshComparison k (k.settled sense) := by
  unfold Comparison.settled
  split
  · exact fresh_toAgree k
  · exact fresh_toFiltering k

theorem fresh_sensed (sense : Bool) (k : Comparison) : FreshComparison k (k.sensed sense) := by
  unfold Comparison.sensed
  split
  · split
    · exact .refl k
    · exact fresh_toFiltering k
  · split
    · exact fresh_toAgree k
    · exact .refl k
  · split
    · exact fresh_toAgree k
    · exact .refl k
  · exact .refl k
  · exact .refl k

theorem fresh_resettle (f : FeedbackPart) (driven : Option Byte) (k : Comparison) :
    FreshComparison k (resettle f driven k) := by
  unfold resettle
  split
  · exact fresh_settling f _ k
  · exact .refl k

/-- A confirmed mismatch stops the filter timer. -/
theorem fresh_confirmed (k : Comparison) : FreshComparison k { k with phase := .confirmed, filter := none } :=
  ⟨id, due_of_stopped⟩

theorem calm_modComparison (c : Chan) (f : FeedbackPart → Comparison → Comparison) (s : State) :
    Calm s (modComparison c f s) := calm_modChan c _ s

theorem local_modComparison {c : Chan} {f : FeedbackPart → Comparison → Comparison} {s : State}
    (hf : ∀ fb k, FreshComparison k (f fb k)) : Local c s (modComparison c f s) := by
  refine local_modChan ?_
  split
  · rename_i fb _
    cases hk : (s.chan c).cmp with
    | none => exact ⟨rfl, rfl, id, .of_eq (by simp [Channel.timers, hk])⟩
    | some k =>
      have hcmp := hf fb k
      exact ⟨rfl, rfl, id, id, id, id, id, id, id, fun h => by simpa [hk] using hcmp.settle (by simpa using h),
        fun h => by simpa [hk] using hcmp.filter (by simpa using h)⟩
  · exact ⟨rfl, rfl, id, .refl _⟩

theorem local_reportStuck (c : Chan) (s : State) : Local c s (reportStuck c s) :=
  .ite (.refl c s) ((local_modChan ⟨rfl, rfl, id, .of_eq rfl⟩).trans (local_record c _ _ _ _ _ _))

theorem local_confirmMismatch (c : Chan) (s : State) : Local c s (confirmMismatch c s) := by
  have hcompared : Local c s (modComparison c (fun _ k => { k with phase := .confirmed, filter := none }) s) :=
    local_modComparison fun _ => fresh_confirmed
  refine .ite (hcompared.trans (local_reportStuck c _)) ?_
  have hrecorded := hcompared.trans (local_record c .feedbackFault (some c) (s.chan c).driven none none _)
  exact .ite hrecorded (hrecorded.trans (local_faultChannel c _ _))

theorem local_settleExpires (c : Chan) (s : State) : Local c s (settleExpires c s) :=
  .ite (local_modComparison fun _ => fresh_settled _) (.refl c s)

theorem calm_filterExpires (c : Chan) (s : State) : Calm s (filterExpires c s) :=
  ((local_confirmMismatch c s).toCalm.trans (calm_arbitrate _)).onEvent

theorem local_actOnSense (c : Chan) (s : State) : Local c s (actOnSense c s) :=
  local_modComparison fun _ => fresh_sensed _

theorem local_clearFaultInRun (c : Chan) (d : Descriptor) (s : State) :
    Local c s (clearFaultInRun c d s) :=
  ((local_modChan ⟨rfl, rfl, id, .stopped rfl rfl⟩).trans
    (local_modComparison fun _ => fresh_unknown)).trans (local_requestDrive c _ _)

theorem local_clearFaultInSafe (c : Chan) (d : Descriptor) (s : State) :
    Local c s (clearFaultInSafe c d s) :=
  (local_modChan ⟨rfl, rfl, id, .stopped rfl rfl⟩).trans
    (local_modComparison fun f => fresh_resettle f _)

/-! ### The channel queues -/

theorem local_appendEntry (c : Chan) (e : Entry) (s : State) : Local c s (appendEntry c e s) :=
  local_modChan ⟨rfl, rfl, id, .of_eq rfl⟩

theorem local_emptyQueue (c : Chan) (s : State) : Local c s (emptyQueue c s) :=
  local_modChan ⟨rfl, rfl, id, .of_eq rfl⟩

theorem local_dropHead (c : Chan) (s : State) : Local c s (dropHead c s) :=
  local_modChan ⟨rfl, rfl, id, .of_eq rfl⟩

theorem tame_abortEffect (gap : Half) (x : Channel) : Tame x (abortEffect gap x) := by
  unfold abortEffect
  split
  · exact ⟨rfl, rfl, id, .of_eq rfl⟩
  · refine ⟨rfl, rfl, id, id, id, id, due_of_stopped, id, fun h => ?_, id, id⟩
    dsimp only at h
    split at h
    · exact absurd h (startTimer_ne_due _)
    · cases h
  · exact ⟨rfl, rfl, id, .of_eq rfl⟩
  · exact ⟨rfl, rfl, id, id, id, id, id, due_of_stopped, id, id, id⟩
  all_goals exact ⟨rfl, rfl, id, .refl _⟩

theorem local_abortTrain (c : Chan) (d : Descriptor) (s : State) : Local c s (abortTrain c d s) := by
  refine Local.trans ?_ (local_recordChannel c _ c _ _)
  refine Local.trans ?_ (local_modChan (tame_abortEffect _ _))
  split
  · exact (local_emptyQueue c s).trans (local_withdraw c _)
  · exact local_emptyQueue c s

theorem local_examine (c : Chan) (d : Descriptor) (v : Byte) (o : Origin) (s : State) :
    Local c s (examine c d v o s).2 := by
  rcases examine_cases c d v o s with ⟨-, h⟩ | ⟨-, h⟩ | ⟨e, -, ⟨-, h⟩ | ⟨-, -, h⟩ | ⟨-, -, h⟩⟩ <;> rw [h]
  · exact local_recordChannel c .badData c v s
  · exact local_abortTrain c d s
  · exact .refl c s
  · exact local_appendEntry c e s
  · exact .refl c s

@[simp] theorem abortTrain_port (c : Chan) (d : Descriptor) (s : State) :
    (abortTrain c d s).port = s.port := by
  rw [abortTrain, recordChannel_port, modChan_port]
  split
  · rw [withdraw]
    split <;> rfl
  · rfl

/-- The examination of a write leaves the port to the one who handed the write over. -/
@[simp] theorem examine_port (c : Chan) (d : Descriptor) (v : Byte) (o : Origin) (s : State) :
    (examine c d v o s).2.port = s.port := by
  rcases examine_cases c d v o s with ⟨-, h⟩ | ⟨-, h⟩ | ⟨e, -, ⟨-, h⟩ | ⟨-, -, h⟩ | ⟨-, -, h⟩⟩ <;> simp [h]

theorem local_reexamine (c : Chan) (s : State) : Local c s (reexamine c s) := by
  rcases reexamine_cases c s with h | ⟨w, d, -, -, hstalled, -, -, h⟩ <;> rw [h]
  · exact .refl c s
  · refine (local_examine c d w.data .host s).trans (local_answerHost ?_ c _ _)
    rw [examine_port, hstalled]

/-! ### The HOLD machine -/

theorem local_activateHold (c : Chan) (d : Descriptor) (v : Byte) (s : State) :
    Local c s (activateHold c d v s) :=
  .ite ((local_takeToken c _ s).trans (local_enterHolding c v _))
    ((local_joinWaiters c _ s).trans (local_enterWaiting c v _))

theorem local_releaseHold (c : Chan) (d : Descriptor) (s : State) : Local c s (releaseHold c d s) :=
  (local_modChan ⟨rfl, rfl, id, due_of_stopped, due_of_stopped, id, id, id, due_of_stopped, id, id⟩).trans
    (local_requestDrive c d.rest _)

theorem local_actOnSet (c : Chan) (d : Descriptor) (v : Byte) (s : State) :
    Local c s (actOnSet c d v s) := by
  refine .ite (.refl c s) (.ite (local_activateHold c d v s) (.ite ?_ (.ite ?_ (.refl c s))))
  · exact .ite ((local_withdraw c s).trans (local_modChan ⟨rfl, rfl, id, .of_eq rfl⟩))
      (local_modChan ⟨rfl, rfl, id, .of_eq rfl⟩)
  · exact .ite (local_releaseHold c d s) (local_enterHolding c v s)

theorem local_takeHolds (n : Nat) (c : Chan) (d : Descriptor) (s : State) :
    Local c s (takeHolds n c d s) := by
  induction n generalizing s with
  | zero => exact .refl c s
  | succ n ih =>
    unfold takeHolds
    split
    · exact .refl c s
    · exact .ite (((local_dropHead c s).trans (local_actOnSet c d _ _)).trans (ih _)) (.refl c s)

theorem local_takeHoldHeads (c : Chan) (d : Descriptor) (s : State) : Local c s (takeHoldHeads c d s) :=
  (local_takeHolds _ c d s).trans (local_reexamine c _)

theorem local_forceRelease (c : Chan) (d : Descriptor) (s : State) : Local c s (forceRelease c d s) :=
  (local_recordChannel c _ c _ s).trans (local_releaseHold c d _)

theorem local_becomeHeld (c : Chan) (d : Descriptor) (s : State) : Local c s (becomeHeld c d s) := by
  have hheads : Local c s
      (takeHoldHeads c d (modChan c (fun x => { x with state := .held, minHold := none }) s)) :=
    (local_modChan ⟨rfl, rfl, id, due_of_stopped, id, id, id, id, id, id, id⟩).trans (local_takeHoldHeads c d _)
  exact .ite (hheads.trans (local_forceRelease c d _)) hheads

theorem local_endHoldRecovery (c : Chan) (d : Descriptor) (s : State) :
    Local c s (endHoldRecovery c d s) := by
  refine Local.trans ?_ (local_takeHoldHeads c d _)
  refine Local.trans ?_ (local_modChan ⟨rfl, rfl, id, .of_eq rfl⟩)
  exact (local_modChan ⟨rfl, rfl, id, id, id, id, id, id, due_of_stopped, id, id⟩).trans (local_releaseToken c _)

theorem local_holdCompletion (c : Chan) (d : Descriptor) (p : HoldPart) (s : State) :
    Local c s (holdCompletion c d p s) := by
  have hstarted : Local c s (modChan c (fun x => { x with
      minHold := startTimer p.minHold.toNat, maxHold := startTimer p.maxHold.toNat }) s) :=
    local_modChan ⟨rfl, rfl, id, due_of_started, due_of_started, id, id, id, id, id, id⟩
  have hgap : Local c s (modChan c (fun x => { x with recovery := startTimer d.gap.toNat }) s) :=
    local_modChan ⟨rfl, rfl, id, id, id, id, id, id, due_of_started, id, id⟩
  exact .ite (.ite (hstarted.trans (local_becomeHeld c d _)) hstarted)
    (.ite (.ite (local_endHoldRecovery c d s) hgap) (.refl c s))

theorem calm_onHold (c : Chan) (p : Channel → Bool) {body : Descriptor → State → State}
    (hbody : ∀ d s, Local c s (body d s)) (s : State) : Calm s (onHold c p body s) := by
  rcases onHold_cases c p body s with h | ⟨d, -, -, -, -, h⟩ <;> rw [h]
  · exact .refl s
  · exact (hbody d s).toCalm.trans (calm_arbitrate _)

/-! ### The TRAIN machine -/

theorem local_startTrain (c : Chan) (d : Descriptor) (p : TrainPart) (n : Byte) (s : State) :
    Local c s (startTrain c d p n s) :=
  .ite ((local_takeToken c _ s).trans (local_enterMark c p _ _))
    ((local_joinWaiters c _ s).trans (local_enterWaiting c n _))

theorem local_actOnTrainEntry (c : Chan) (d : Descriptor) (p : TrainPart) (e : Entry) (s : State) :
    Local c s (actOnTrainEntry c d p e s) := by
  unfold actOnTrainEntry
  split
  · exact local_startTrain c d p _ s
  · exact local_modChan ⟨rfl, rfl, id, id, id, id, id, due_of_started, id, id, id⟩
  · exact .refl c s

theorem local_takeTrainHead (c : Chan) (d : Descriptor) (p : TrainPart) (s : State) :
    Local c s (takeTrainHead c d p s) := by
  unfold takeTrainHead
  split
  · exact .refl c s
  · refine .ite ?_ (.refl c s)
    exact ((local_dropHead c s).trans (local_actOnTrainEntry c d p _ _)).trans (local_reexamine c _)

theorem local_leaveMark {c : Chan} {d : Descriptor} {f : Channel → Channel} {s : State}
    (h : ∀ x, Tame x (f x)) : Local c s (leaveMark c d f s) := by
  refine Local.trans (local_modChan ?_) (local_requestDrive c d.rest _)
  have hstopped : Fresh (s.chan c) { s.chan c with target := some d.rest, markTimer := none } :=
    ⟨id, id, due_of_stopped, id, id, id, id, id⟩
  obtain ⟨hdesc, hmark, hslot, hfresh⟩ := h { s.chan c with target := some d.rest, markTimer := none }
  exact ⟨hdesc, hmark, hslot, hstopped.trans hfresh⟩

theorem local_endMark (c : Chan) (d : Descriptor) (s : State) : Local c s (endMark c d s) := by
  have htoRecovery (t : State) : Local c t (leaveMark c d (fun x =>
      { x with state := .recovering, marks := 0, trainCount := 0, abortPending := false, recovery := none }) t) :=
    local_leaveMark fun _ => ⟨rfl, rfl, id, id, id, id, id, id, due_of_stopped, id, id⟩
  refine .ite (htoRecovery s) (.ite ((local_recordChannel c _ c _ s).trans (htoRecovery _)) ?_)
  exact local_leaveMark fun _ => ⟨rfl, rfl, id, id, id, id, due_of_stopped, id, id, id, id⟩

theorem local_endSpace (c : Chan) (p : TrainPart) (s : State) : Local c s (endSpace c p s) :=
  (local_modChan ⟨rfl, rfl, id, id, id, due_of_stopped, due_of_stopped, id, id, id, id⟩).trans
    (local_requestDrive c p.markValue _)

theorem local_endPause (c : Chan) (d : Descriptor) (p : TrainPart) (s : State) :
    Local c s (endPause c d p s) :=
  (local_modChan ⟨rfl, rfl, id, id, id, id, id, due_of_stopped, id, id, id⟩).trans (local_takeTrainHead c d p _)

theorem local_endTrainRecovery (c : Chan) (d : Descriptor) (p : TrainPart) (s : State) :
    Local c s (endTrainRecovery c d p s) := by
  refine Local.trans ?_ (local_takeTrainHead c d p _)
  refine Local.trans ?_ (local_modChan ⟨rfl, rfl, id, .of_eq rfl⟩)
  exact (local_modChan ⟨rfl, rfl, id, id, id, id, id, id, due_of_stopped, id, id⟩).trans (local_releaseToken c _)

theorem local_trainCompletion (c : Chan) (d : Descriptor) (p : TrainPart) (s : State) :
    Local c s (trainCompletion c d p s) := by
  refine local_modChan ?_
  split
  · exact ⟨rfl, rfl, id, id, id, due_of_started, id, id, id, id, id⟩
  · split
    · exact ⟨rfl, rfl, id, id, id, id, due_of_started, id, id, id, id⟩
    · split
      · exact ⟨rfl, rfl, id, id, id, id, id, id, due_of_started, id, id⟩
      · exact ⟨rfl, rfl, id, .refl _⟩

theorem calm_onTrain (c : Chan) (q : Channel → Bool) {body : Descriptor → TrainPart → State → State}
    (hbody : ∀ d p s, Local c s (body d p s)) (s : State) : Calm s (onTrain c q body s) := by
  rcases onTrain_cases c q body s with h | ⟨d, p, -, -, -, -, h⟩ <;> rw [h]
  · exact .refl s
  · exact (hbody d p s).toCalm.trans (calm_arbitrate _)

/-! ### The timer expiries and the head takes -/

theorem calm_holdHeadTakes (c : Chan) (s : State) : Calm s (holdHeadTakes c s) :=
  calm_onHold c _ (local_takeHoldHeads c) s

theorem calm_minHoldExpires (c : Chan) (s : State) : Calm s (minHoldExpires c s) :=
  calm_onHold c _ (local_becomeHeld c) s

theorem calm_maxHoldExpires (c : Chan) (s : State) : Calm s (maxHoldExpires c s) :=
  calm_onHold c _ (local_forceRelease c) s

theorem calm_holdRecoveryEnds (c : Chan) (s : State) : Calm s (holdRecoveryEnds c s) :=
  calm_onHold c _ (local_endHoldRecovery c) s

theorem calm_trainHeadTakes (c : Chan) (s : State) : Calm s (trainHeadTakes c s) :=
  calm_onTrain c _ (local_takeTrainHead c) s

theorem calm_markExpires (c : Chan) (s : State) : Calm s (markExpires c s) :=
  calm_onTrain c _ (fun d _ => local_endMark c d) s

theorem calm_spaceExpires (c : Chan) (s : State) : Calm s (spaceExpires c s) :=
  calm_onTrain c _ (fun _ p => local_endSpace c p) s

theorem calm_pauseExpires (c : Chan) (s : State) : Calm s (pauseExpires c s) :=
  calm_onTrain c _ (local_endPause c) s

theorem calm_trainRecoveryEnds (c : Chan) (s : State) : Calm s (trainRecoveryEnds c s) :=
  calm_onTrain c _ (local_endTrainRecovery c) s

theorem calm_takeDueOf (c : Chan) (s : State) : Calm s (takeDueOf c s) := by
  refine Calm.trans ?_ (calm_filterExpires c _)
  refine Calm.trans ?_ (local_settleExpires c _).toCalm
  refine Calm.trans ?_ (calm_trainRecoveryEnds c _)
  refine Calm.trans ?_ (calm_pauseExpires c _)
  refine Calm.trans ?_ (calm_spaceExpires c _)
  refine Calm.trans ?_ (calm_markExpires c _)
  refine Calm.trans ?_ (calm_holdRecoveryEnds c _)
  exact (calm_minHoldExpires c s).trans (calm_maxHoldExpires c _)

theorem calm_takeAppendedOf (c : Chan) (s : State) : Calm s (takeAppendedOf c s) :=
  ((calm_holdHeadTakes c s).trans (calm_holdHeadTakes c _)).trans (calm_trainHeadTakes c _)

theorem Calm.foldl {op : Chan → State → State} (hop : ∀ c s, Calm s (op c s)) (l : List Chan) (s : State) :
    Calm s (l.foldl (fun t c => op c t) s) := by
  induction l generalizing s with
  | nil => exact .refl s
  | cons c l ih => exact (hop c s).trans (ih _)

/-! ### The ends of a drive write -/

theorem local_cadenceCompletion (c : Chan) (s : State) : Local c s (cadenceCompletion c s) := by
  unfold cadenceCompletion
  split
  · exact .refl c s
  · split
    · exact local_holdCompletion c _ _ s
    · exact local_trainCompletion c _ _ s

theorem calm_updateMark (c : Chan) (s : State) : Calm s (updateMark c s) := calm_modChan c _ s

theorem local_creditCompletion (f : InFlight) (s : State) : Local f.channel s (creditCompletion f s) := by
  have hcredited : Local f.channel s (modComparison f.channel (fun fb k => k.completion fb f.value)
      (modChan f.channel (fun x => { x with driven := some f.value }) s)) :=
    (local_modChan ⟨rfl, rfl, id, .of_eq rfl⟩).trans (local_modComparison fun fb => fresh_completion fb _)
  exact .ite (hcredited.trans (local_cadenceCompletion f.channel _)) hcredited

theorem local_chargeTimeout (f : InFlight) (s : State) : Local f.channel s (chargeTimeout f s) := by
  have hlost : Local f.channel s (modComparison f.channel (fun _ _ => .unknown)
      (modChan f.channel (fun x => { x with driven := none }) s)) :=
    (local_modChan ⟨rfl, rfl, id, .of_eq rfl⟩).trans (local_modComparison fun _ => fresh_unknown)
  exact .ite (hlost.trans (local_faultChannel f.channel .driveTimeout _)) hlost

/-! ### The host bus port -/

theorem calm_arrive (k : CycleKind) (a : Addr) (v : Option Byte) (d : Option HostDecode) (s : State) :
    Calm s (arrive k a v d s) := .of_eq rfl

theorem calm_governedReadArrives (a : Addr) (c : Chan) (s : State) : Calm s (governedReadArrives a c s) :=
  (calm_arrive _ a _ _ s).trans (calm_answerHost _ _ _)

theorem calm_stallHost (c : Chan) (v : Byte) (e : Entry) (s : State) : Calm s (stallHost c v e s) := .of_eq rfl

theorem calm_handToQueues (c : Chan) (d : Descriptor) (v : Byte) (s : State) :
    Calm s (handToQueues c d v s) := by
  have hexamined := (local_examine c d v .host s).toCalm
  unfold handToQueues
  split
  · rename_i e t h
    rw [h] at hexamined
    split
    · exact hexamined.trans ((calm_recordChannel _ c v t).trans (calm_answerHost _ _ _))
    · exact hexamined.trans (calm_stallHost c v e t)
  all_goals
    rename_i t h
    rw [h] at hexamined
    exact hexamined.trans (calm_answerHost _ _ t)

theorem calm_governedWriteArrives (a : Addr) (v : Byte) (c : Chan) (s : State) :
    Calm s (governedWriteArrives a v c s) := by
  unfold governedWriteArrives
  split
  · exact .refl s
  · refine (calm_arrive .write a (some v) (some (.governed c)) s).trans (.ite ?_ ?_)
    · exact (calm_recordChannel _ c v _).trans (calm_answerHost _ _ _)
    · exact calm_handToQueues c _ v _

theorem calm_passArrives (a : Addr) (data : Option Byte) (s : State) : Calm s (passArrives a data s) := by
  refine Calm.trans ?_ (calm_arbitrate _)
  exact .of_eq rfl

theorem calm_invalidArrives (a : Addr) (s : State) : Calm s (invalidArrives a s) :=
  (calm_arrive _ a _ _ s).trans (calm_answerHost _ _ _)

theorem calm_arrivesInReset (h : HostStrobes) (s : State) : Calm s (arrivesInReset h s) :=
  (calm_arrive _ _ _ _ s).trans (calm_answerHost _ _ _)

theorem calm_arrives (h : HostStrobes) (s : State) : Calm s (arrives h s) := by
  unfold arrives
  split
  · split
    · exact calm_governedReadArrives _ _ s
    · exact calm_passArrives _ _ s
  · split
    · exact calm_governedWriteArrives _ _ _ s
    · exact calm_passArrives _ _ s
  · exact calm_invalidArrives _ s

theorem calm_strobesReleased (s : State) : Calm s (strobesReleased s) := by
  rw [strobesReleased_frame]
  exact .of_eq rfl

end Sys2Proof.Machine
end

section
/-! What a command can do to the waiting commands, the event unit, the settings, the mode and the heartbeat timer:
one theorem over all 63 commands (`exec_outcome`), from which O1, O2, O5, O6, O7 and O10 follow. -/

namespace Sys2Proof.Machine

/-! ### Taking a request -/

/-- Everything the acceptance of a request can do: nothing, a refusal, or the owning rule (R176, R182). -/
theorem takeRequest_cases (n : Nat) (a : Acceptance) (p : List Byte) (s t : State) :
    takeRequest n a p s t = s ∨ (s.mgmt.phase = .request ∧ ∃ r, takeRequest n a p s t = respond r [] s) ∨
      (s.live = true ∧ s.mgmt.phase = .request ∧ p.length = n ∧ takenIn a s.ctl.mode = true ∧
        takeRequest n a p s t = t) := by
  unfold takeRequest State.onEvent
  split
  · rename_i h
    simp only [Bool.and_eq_true, beq_iff_eq] at h
    obtain ⟨hlive, hphase⟩ := h
    split
    · exact .inr (.inl ⟨hphase, _, rfl⟩)
    · rename_i hlen
      split
      · rename_i hmode
        exact .inr (.inr ⟨hlive, hphase, not_not.mp hlen, hmode, rfl⟩)
      · exact .inr (.inl ⟨hphase, _, rfl⟩)
  · exact .inl rfl

/-- The channel check refuses, or hands over to the owning rule (R183). -/
theorem withChannel_cases (p : List Byte) (s : State) (f : Chan → State) :
    withChannel p s f = respond .badChannel [] s ∨
      ∃ c, chanOf (byteAt p 0) = some c ∧ withChannel p s f = f c := by
  unfold withChannel
  split
  · exact .inl rfl
  · exact .inr ⟨_, ‹_›, rfl⟩

/-! ### Operations that may change the mode -/

/-- `t` comes from `s` by operations that keep the waiting commands, the settings and the law of the heartbeat
timer (R151), and store records alone in the event unit. -/
structure Inner (s t : State) : Prop where
  pending : t.pending = s.pending
  log : Logged s.ev t.ev
  address : t.ctl.heartbeatAddress = s.ctl.heartbeatAddress
  timeout : t.ctl.heartbeatTimeout = s.ctl.heartbeatTimeout
  limit : t.ctl.stallLimit = s.ctl.stallLimit
  heartbeat : HeartbeatLaw s → HeartbeatLaw t

theorem Calm.inner {s t : State} (h : Calm s t) : Inner s t where
  pending := h.pending
  log := h.log
  address := by rw [h.ctl]
  timeout := by rw [h.ctl]
  limit := by rw [h.ctl]
  heartbeat := by
    intro hs
    rw [HeartbeatLaw, h.ctl]
    exact hs

theorem Inner.refl (s : State) : Inner s s := (Calm.refl s).inner

theorem Inner.trans {s t u : State} (h : Inner s t) (k : Inner t u) : Inner s u where
  pending := k.pending.trans h.pending
  log := h.log.trans k.log
  address := k.address.trans h.address
  timeout := k.timeout.trans h.timeout
  limit := k.limit.trans h.limit
  heartbeat := k.heartbeat ∘ h.heartbeat

theorem Inner.ite {s t u : State} {p : Prop} [Decidable p] (ht : Inner s t) (hu : Inner s u) :
    Inner s (if p then t else u) := by
  split <;> assumption

/-- An operation that does not name the waiting commands, the mode controller and the event unit. -/
theorem Inner.of_eq {s t : State} (h : (t.pending, t.ctl, t.ev) = (s.pending, s.ctl, s.ev)) : Inner s t := by
  simp only [Prod.mk.injEq] at h
  obtain ⟨hpending, hctl, hev⟩ := h
  exact ⟨hpending, hev ▸ .refl, by rw [hctl], by rw [hctl], by rw [hctl],
    fun hs => by rw [HeartbeatLaw, hctl]; exact hs⟩

/-- The mode is RUN or on its way there. -/
def TowardRun (m : Mode) : Prop := m = .run ∨ m = .enteringRun

/-- The mode comes no nearer to RUN. -/
def Away (s t : State) : Prop := TowardRun t.ctl.mode → TowardRun s.ctl.mode

theorem Away.of_ctl {s t : State} (h : t.ctl = s.ctl) : Away s t := fun ht => by rwa [h] at ht

theorem Calm.away {s t : State} (h : Calm s t) : Away s t := .of_ctl h.ctl

theorem Away.trans {s t u : State} (h : Away s t) (k : Away t u) : Away s u := h ∘ k

theorem Away.ite {s t u : State} {p : Prop} [Decidable p] (ht : Away s t) (hu : Away s u) :
    Away s (if p then t else u) := by
  split <;> assumption

theorem Away.of_mode {s t : State} {m : Mode} (h : t.ctl.mode = m) (hm : ¬ TowardRun m := by
    simp [TowardRun]) : Away s t := fun ht => absurd (h ▸ ht) hm

/-- An operation that leaves the event unit, the waiting commands and the settings alone. -/
theorem Inner.of_settings {s t : State} (hpending : t.pending = s.pending) (hev : t.ev = s.ev)
    (haddress : t.ctl.heartbeatAddress = s.ctl.heartbeatAddress)
    (htimeout : t.ctl.heartbeatTimeout = s.ctl.heartbeatTimeout)
    (hlimit : t.ctl.stallLimit = s.ctl.stallLimit) (h : HeartbeatLaw s → HeartbeatLaw t) : Inner s t :=
  ⟨hpending, hev ▸ .refl, haddress, htimeout, hlimit, h⟩

theorem calm_recordModeChanged (s : State) : Calm s (recordModeChanged s) := calm_record _ _ _ _ _ s

theorem inner_completeRun (s : State) : Inner s (completeRun s) := by
  refine Inner.trans ?_ (calm_recordModeChanged _).inner
  exact .of_settings (by simp) (by simp) (by simp) (by simp) (by simp) (fun _ _ => by simp)

theorem inner_completeSafe {s : State} (h : s.ctl.mode ≠ .run) : Inner s (completeSafe s) := by
  refine Inner.trans ?_ (calm_recordModeChanged _).inner
  exact .of_settings rfl rfl rfl rfl rfl (fun hs ht => absurd (hs ht) h)

theorem inner_completeConfig {s : State} (h : s.ctl.mode ≠ .run) : Inner s (completeConfig s) := by
  refine Inner.trans ?_ (calm_recordModeChanged _).inner
  exact .of_settings (by simp) (by simp) (by simp) (by simp) (by simp)
    (fun hs ht => absurd (hs (by simpa using ht)) h)

theorem inner_transitionReport (s : State) : Inner s (transitionReport s) := by
  rcases transitionReport_cases s with ⟨-, hm, h⟩ | ⟨-, hm, h⟩ | ⟨-, hm, h⟩ | ⟨-, h⟩ <;> rw [h]
  · exact inner_completeRun s
  · exact inner_completeSafe (by simp [hm])
  · exact inner_completeConfig (by simp [hm])
  · exact .refl s

theorem away_transitionReport (s : State) : Away s (transitionReport s) := by
  rcases transitionReport_cases s with ⟨-, hm, h⟩ | ⟨-, hm, h⟩ | ⟨-, hm, h⟩ | ⟨-, h⟩ <;> rw [h]
  · exact fun _ => .inr hm
  · exact .of_mode (m := .safe) rfl
  · exact .of_mode (m := .config) (by simp [completeConfig])
  · exact id

theorem inner_beginRun {s : State} (h : s.ctl.mode ≠ .run) : Inner s (beginRun s) := by
  refine Inner.trans ?_ (inner_transitionReport _)
  exact .of_settings (by simp) (by simp) (by simp) (by simp) (by simp)
    (fun hs ht => absurd (hs (by simpa using ht)) h)

/-- The table of R146 past the stalled write. -/
def clearRun (next : Mode) (s : State) : State :=
  requestTransitionDrives (·.safe) (setHeartbeat none (clearGroups (mapChans Channel.leaveRun (setMode next s))))

theorem leaveRun_eq (next : Mode) (s : State) :
    leaveRun next s = transitionReport (clearRun next (giveUpStall (fun _ => true) s)) := rfl

theorem heartbeatLaw_clearRun (next : Mode) (s : State) : HeartbeatLaw (clearRun next s) := fun ht => by
  simp [clearRun] at ht

theorem inner_clearRun (next : Mode) (s : State) : Inner s (clearRun next s) :=
  .of_settings (by simp [clearRun]) (by simp [clearRun]) (by simp [clearRun]) (by simp [clearRun])
    (by simp [clearRun]) fun _ => heartbeatLaw_clearRun next s

theorem inner_leaveRun (next : Mode) (s : State) : Inner s (leaveRun next s) :=
  ((local_giveUpStall 0 (fun _ => true) s).inner.trans (inner_clearRun next _)).trans
    (inner_transitionReport _)

/-- The mode that leaves RUN is on its way to SAFE or CONFIG. -/
theorem away_leaveRun {next : Mode} (hnext : ¬ TowardRun next) (s : State) : Away s (leaveRun next s) := by
  rw [leaveRun_eq]
  exact Away.trans (.of_mode (m := next) (by simp [clearRun]) hnext) (away_transitionReport _)

theorem inner_leaveRunToSafe (cause : SafeCause) (s : State) : Inner s (leaveRunToSafe cause s) := by
  refine Inner.trans ?_ (inner_leaveRun .enteringSafe _)
  exact ⟨rfl, .refl, rfl, rfl, rfl, id⟩

theorem away_leaveRunToSafe (cause : SafeCause) (s : State) : Away s (leaveRunToSafe cause s) := by
  refine Away.trans ?_ (away_leaveRun (by simp [TowardRun]) _)
  exact id

theorem inner_actOnSafeLow (s : State) : Inner s (actOnSafeLow s) := by
  unfold actOnSafeLow
  split
  · exact inner_leaveRunToSafe .safeLine s
  · rename_i hm
    refine Inner.trans ?_ (inner_transitionReport _)
    exact .of_settings (by simp) (by simp) (by simp) (by simp) (by simp)
      (fun hs ht => absurd (hs (by simpa using ht)) (by simp [hm]))
  all_goals exact .refl s

theorem away_actOnSafeLow (s : State) : Away s (actOnSafeLow s) := by
  unfold actOnSafeLow
  split
  · exact away_leaveRunToSafe .safeLine s
  · refine Away.trans ?_ (away_transitionReport _)
    exact .of_mode (m := .enteringSafe) rfl
  all_goals exact id

theorem inner_arbitrate (s : State) : Inner s (arbitrate s) := (calm_arbitrate s).inner

theorem away_arbitrate (s : State) : Away s (arbitrate s) := (calm_arbitrate s).away

/-- An operation of one event: it keeps what `Inner` names and comes no nearer to RUN. -/
abbrev Ordinary (s t : State) : Prop := Inner s t ∧ Away s t

theorem Calm.ordinary {s t : State} (h : Calm s t) : Ordinary s t := ⟨h.inner, h.away⟩

theorem Ordinary.refl (s : State) : Ordinary s s := (Calm.refl s).ordinary

theorem Ordinary.trans {s t u : State} (h : Ordinary s t) (k : Ordinary t u) : Ordinary s u :=
  ⟨h.1.trans k.1, h.2.trans k.2⟩

theorem Ordinary.ite {s t u : State} {p : Prop} [Decidable p] (ht : Ordinary s t) (hu : Ordinary s u) :
    Ordinary s (if p then t else u) := by
  split <;> assumption

theorem Ordinary.onEvent {s t : State} {b : Bool} (h : Ordinary s t) : Ordinary s (s.onEvent b t) :=
  .ite h (.refl s)

theorem Ordinary.arbitrate {s t : State} (h : Ordinary s t) : Ordinary s (arbitrate t) :=
  h.trans (calm_arbitrate t).ordinary

/-- An operation that does not name the waiting commands, the mode controller and the event unit. -/
theorem Ordinary.of_eq {s t : State} (h : (t.pending, t.ctl, t.ev) = (s.pending, s.ctl, s.ev)) :
    Ordinary s t := by
  refine ⟨.of_eq h, .of_ctl ?_⟩
  simp only [Prod.mk.injEq] at h
  exact h.2.1

theorem ordinary_respond (r : Status) (p : List Byte) (s : State) : Ordinary s (respond r p s) := .of_eq rfl

theorem Ordinary.respond {s t : State} {r : Status} {p : List Byte} (h : Ordinary s t) :
    Ordinary s (respond r p t) := h.trans (ordinary_respond r p t)

theorem Ordinary.takeRequest {n : Nat} {a : Acceptance} {p : List Byte} {s t : State}
    (h : takenIn a s.ctl.mode = true → Ordinary s t) : Ordinary s (takeRequest n a p s t) := by
  rcases takeRequest_cases n a p s t with e | ⟨-, r, e⟩ | ⟨-, -, -, hmode, e⟩ <;> rw [e]
  · exact .refl s
  · exact ordinary_respond r [] s
  · exact h hmode

theorem Ordinary.withChannel {p : List Byte} {s : State} {f : Chan → State}
    (h : ∀ c, Ordinary s (f c)) : Ordinary s (withChannel p s f) := by
  rcases withChannel_cases p s f with e | ⟨c, -, e⟩ <;> rw [e]
  · exact ordinary_respond _ _ s
  · exact h c

theorem ordinary_endDrive (c : Chan) (s : State) : Ordinary s (endDrive c s) :=
  ((calm_updateMark c s).ordinary.trans ⟨inner_transitionReport _, away_transitionReport _⟩).arbitrate

theorem ordinary_heartbeatExpires (s : State) : Ordinary s (heartbeatExpires s) :=
  (((calm_record .heartbeatLost none none none none s).ordinary.trans
    ⟨inner_leaveRunToSafe .heartbeat _, away_leaveRunToSafe .heartbeat _⟩).arbitrate).onEvent

theorem ordinary_takeDue (s : State) : Ordinary s (takeDue s) :=
  (Calm.foldl calm_takeDueOf allChans s).ordinary.trans (ordinary_heartbeatExpires _)

theorem ordinary_advanceTime (s : State) : Ordinary s (advanceTime s) :=
  ⟨.of_settings (by simp) (by simp) (by simp) (by simp) (by simp)
    fun hs ht => hs (by simpa [tickTimer] using ht), by simp [Away]⟩

theorem detach_frame (c : Chan) (s : State) : detach c s = { s with down := (detach c s).down } := by
  unfold detach
  split
  · split <;> rfl
  · rfl
  · rfl

theorem ordinary_detach (c : Chan) (s : State) : Ordinary s (detach c s) := by
  rw [detach_frame]
  exact .of_eq rfl

theorem ordinary_acceptSetChannel (c : Chan) (d : Descriptor) (s : State) :
    Ordinary s (acceptSetChannel c d s) :=
  (ordinary_detach c s).trans (.of_eq rfl)

theorem ordinary_acceptHeld (s : State) : Ordinary s (acceptHeld s) := by
  unfold acceptHeld
  split
  · exact .refl s
  · exact .ite (.refl s)
      (.ite (ordinary_acceptSetChannel _ _ s).respond (ordinary_acceptSetChannel _ _ s))

theorem ordinary_takeSetChannel (c : Chan) (d : Descriptor) (s : State) :
    Ordinary s (takeSetChannel c d s) :=
  .ite (.of_eq rfl) (ordinary_acceptSetChannel c d s).arbitrate.respond

/-- A heartbeat restarts only in RUN (R151). -/
theorem ordinary_reportHeartbeat (s : State) : Ordinary s (reportHeartbeat s) := by
  unfold reportHeartbeat
  split
  · rename_i h
    exact ⟨⟨rfl, .refl, rfl, rfl, rfl, fun _ _ => h.1⟩, id⟩
  · exact .refl s

theorem ordinary_endPass (s : State) : Ordinary s (endPass s) := (ordinary_acceptHeld s).arbitrate

theorem ordinary_queueWriteExamined (c : Chan) (d : Descriptor) (v : Byte) (s : State) :
    Ordinary s (queueWriteExamined c d v s) := by
  have hexamined := (local_examine c d v .mgmt s).toCalm
  unfold queueWriteExamined
  split
  all_goals
    rename_i t h
    rw [h] at hexamined
  · exact (hexamined.trans (calm_recordChannel _ c v t)).ordinary.respond
  · exact hexamined.ordinary.respond
  · exact (hexamined.trans ((local_reexamine c t).toCalm.trans (calm_arbitrate _))).ordinary.respond
  · exact hexamined.ordinary.respond
  · exact hexamined.ordinary.respond

theorem Ordinary.onArrival {s t : State} {b : Bool} {h : HostStrobes} (ht : Ordinary s t) :
    Ordinary s (s.onArrival b h t) :=
  .ite (.refl s) (.ite (.ite ht (.refl s)) (.ite (.refl s) (.of_eq rfl)))

/-- The strobes taken by an arrival that is itself an ordinary operation. -/
theorem ordinary_takeStrobes {arrival : HostStrobes → State → State}
    (harrival : ∀ h s, Ordinary s (arrival h s)) (s : State) : Ordinary s (takeStrobes arrival s) := by
  rcases takeStrobes_cases arrival s with ⟨-, e⟩ | ⟨m, -, ⟨-, h, k, -, -, -, e⟩ | e | ⟨h, -, -, e⟩⟩ <;> rw [e]
  · exact .refl s
  · exact .of_eq rfl
  · refine Ordinary.trans ?_ (calm_strobesReleased _).ordinary
    exact .of_eq rfl
  · refine Ordinary.trans ?_ (harrival h _)
    refine Ordinary.trans ?_ (calm_strobesReleased _).ordinary
    exact .of_eq rfl

theorem ordinary_takeInputsInReset (s : State) : Ordinary s (takeInputsInReset s) := by
  refine Ordinary.trans ?_ (ordinary_takeStrobes (fun h t => (calm_arrivesInReset h t).ordinary) _)
  exact .of_eq rfl

theorem ordinary_endHold {s t : State} (h : Ordinary s t) : Ordinary s (endHold s t) :=
  .ite (h.trans (ordinary_takeInputsInReset t)) h

theorem ordinary_takeSafeLine (s : State) : Ordinary s (takeSafeLine s) := by
  refine .ite (.refl s) ?_
  exact (show Ordinary s (actOnSafeLow s) from ⟨inner_actOnSafeLow s, away_actOnSafeLow s⟩).arbitrate

theorem ordinary_takeSense (s : State) : Ordinary s (takeSense s) :=
  (Calm.foldl (fun c t => (local_actOnSense c t).toCalm) allChans s).ordinary

/-! ### A reset among the inputs taken together -/

/-- The mode controller and the event unit as a reset leaves them, and no channel configured. -/
structure Restarted (s t : State) : Prop where
  pending : t.pending = s.pending
  channels : t.channels = State.reset.channels
  ctl : t.ctl = ModeControl.reset
  ev : t.ev = EventUnit.reset

theorem restarted_resetPart (s : State) : Restarted s (resetPart s) := ⟨rfl, rfl, rfl, rfl⟩

/-- A later operation that keeps these blocks keeps the restart. -/
theorem Restarted.of_eq {s t u : State} (h : Restarted s t)
    (k : (u.pending, u.channels, u.ctl, u.ev) = (t.pending, t.channels, t.ctl, t.ev)) : Restarted s u := by
  simp only [Prod.mk.injEq] at k
  obtain ⟨hpending, hchannels, hctl, hev⟩ := k
  exact ⟨hpending.trans h.pending, hchannels.trans h.channels, hctl.trans h.ctl, hev.trans h.ev⟩

theorem Restarted.chan {s t : State} (h : Restarted s t) (c : Chan) : t.chan c = Channel.empty := by
  rw [State.chan, h.channels]
  simp [State.reset]

theorem Restarted.governed {s t : State} (h : Restarted s t) (a : Addr) : t.governed a = none := by
  rw [State.governed, List.find?_eq_none]
  intro c _
  simp [h.chan c, Channel.empty]

/-- An ordinary operation, or one that ends in a restart. -/
abbrev OrdinaryOrRestart (s t : State) : Prop := Ordinary s t ∨ Restarted s t

/-- Before a restart any ordinary operation may come. -/
theorem Restarted.after {s t u : State} (h : Ordinary s t) (k : Restarted t u) : Restarted s u :=
  ⟨k.pending.trans h.1.pending, k.channels, k.ctl, k.ev⟩

theorem ordinary_openTransaction (s : State) : Ordinary s (openTransaction s) := .of_eq rfl

theorem closeTransaction_outcome (s : State) : OrdinaryOrRestart s (closeTransaction s) := by
  unfold closeTransaction
  split
  · exact .inr (restarted_resetPart s)
  · exact .inl (.of_eq rfl)

theorem takeSelect_outcome (s : State) : OrdinaryOrRestart s (takeSelect s) := by
  unfold takeSelect
  split
  · exact .inl (ordinary_openTransaction s)
  · split
    · exact closeTransaction_outcome s
    · exact .inl (.refl s)

/-- With no channel configured the arbiter has no drive to issue. -/
theorem Restarted.arbitrate {s t : State} (h : Restarted s t) : Restarted s (arbitrate t) := by
  refine h.of_eq ?_
  obtain ⟨-, hctl, hev, -, -, hpending⟩ := arbitrate_frame t
  have hchannels : (Machine.arbitrate t).channels = t.channels := by
    rcases arbitrate_cases t with ⟨-, e⟩ | ⟨-, c, hc, -, -⟩ | ⟨-, -, -, e⟩ | ⟨-, -, -, e⟩
    · rw [e]
    · have hslot := (lowestPending_some hc).1
      rw [h.chan c] at hslot
      cases hslot
    · rw [e]; rfl
    · rw [e]
  rw [hctl, hev, hpending, hchannels]

theorem Restarted.answerHost {s t : State} (h : Restarted s t) (e : EndKind) (a : Option Byte) :
    Restarted s (answerHost e a t) := by
  rw [answerHost_frame]
  exact h.of_eq rfl

/-- With no channel configured every cycle is a pass-through cycle or invalid, and leaves no record. -/
theorem Restarted.arrives {s t : State} (h : Restarted s t) (m : HostStrobes) :
    Restarted s (arrives m t) := by
  unfold Machine.arrives
  split
  · rw [h.governed]
    exact Restarted.arbitrate (h.of_eq rfl)
  · rw [h.governed]
    exact Restarted.arbitrate (h.of_eq rfl)
  · refine Restarted.answerHost ?_ _ _
    exact h.of_eq rfl

theorem Restarted.strobesReleased {s t : State} (h : Restarted s t) :
    Restarted s (strobesReleased t) := by
  rw [strobesReleased_frame]
  exact h.of_eq rfl

theorem Restarted.takeStrobes {s t : State} (h : Restarted s t) : Restarted s (takeStrobes Machine.arrives t) := by
  rcases takeStrobes_cases Machine.arrives t with ⟨-, e⟩ | ⟨m, -, ⟨-, w, k, -, -, -, e⟩ | e | ⟨w, -, -, e⟩⟩ <;> rw [e]
  · exact h
  · exact h.of_eq rfl
  · exact Restarted.strobesReleased (h.of_eq rfl)
  · refine Restarted.arrives (Restarted.strobesReleased ?_) w
    exact h.of_eq rfl

theorem Restarted.takeSafeLine {s t : State} (h : Restarted s t) : Restarted s (takeSafeLine t) := by
  unfold Machine.takeSafeLine
  split
  · exact h
  · refine Restarted.arbitrate ?_
    unfold actOnSafeLow
    rw [h.ctl]
    exact h

/-- A channel without descriptor has no comparison to move. -/
theorem modComparison_unsupervised {c : Chan} {f : FeedbackPart → Comparison → Comparison} {s : State}
    (h : (s.chan c).desc.bind (·.feedback) = none) : modComparison c f s = s := by
  simp [modComparison, modChan, h]

theorem Restarted.takeSense {s t : State} (h : Restarted s t) : Restarted s (takeSense t) := by
  have hkeep : ∀ l : List Chan, l.foldl (fun u c => actOnSense c u) t = t := by
    intro l
    induction l with
    | nil => rfl
    | cons c l ih =>
      rw [List.foldl_cons, actOnSense, modComparison_unsupervised (by rw [h.chan c]; rfl), ih]
  rw [Machine.takeSense, hkeep]
  exact h

/-- An input taken after another: an ordinary operation goes on, and a restart stands. -/
theorem OrdinaryOrRestart.andThen {s t : State} {op : State → State} (h : OrdinaryOrRestart s t)
    (hop : Ordinary t (op t)) (hkeep : Restarted s t → Restarted s (op t)) :
    OrdinaryOrRestart s (op t) := by
  rcases h with h | h
  · exact .inl (h.trans hop)
  · exact .inr (hkeep h)

theorem OrdinaryOrRestart.takeSelect {s t : State} (h : OrdinaryOrRestart s t) :
    OrdinaryOrRestart s (takeSelect t) := by
  rcases h with h | h
  · exact (takeSelect_outcome t).imp h.trans (Restarted.after h)
  · refine .inr ?_
    unfold Machine.takeSelect
    split
    · exact h.of_eq rfl
    · split
      · unfold closeTransaction
        split
        · exact ⟨h.pending, rfl, rfl, rfl⟩
        · exact h.of_eq rfl
      · exact h

theorem OrdinaryOrRestart.takeStrobes {s t : State} (h : OrdinaryOrRestart s t) :
    OrdinaryOrRestart s (takeStrobes arrives t) :=
  h.andThen (ordinary_takeStrobes (fun m u => (calm_arrives m u).ordinary) t) Restarted.takeStrobes

theorem OrdinaryOrRestart.takeSafeLine {s t : State} (h : OrdinaryOrRestart s t) :
    OrdinaryOrRestart s (takeSafeLine t) :=
  h.andThen (ordinary_takeSafeLine t) Restarted.takeSafeLine

theorem takePins_outcome (order : Fin 6) (s : State) : OrdinaryOrRestart s (takePins order s) := by
  have h : OrdinaryOrRestart s s := .inl (.refl s)
  unfold takePins
  split
  · exact h.takeSelect.takeStrobes.takeSafeLine
  · exact h.takeSelect.takeSafeLine.takeStrobes
  · exact h.takeStrobes.takeSelect.takeSafeLine
  · exact h.takeStrobes.takeSafeLine.takeSelect
  · exact h.takeSafeLine.takeSelect.takeStrobes
  · exact h.takeSafeLine.takeStrobes.takeSelect

theorem takeInputs_outcome (order : Fin 6) (s : State) : OrdinaryOrRestart s (takeInputs order s) := by
  unfold takeInputs
  split
  · exact .inl (ordinary_takeInputsInReset s)
  · exact (takePins_outcome order s).andThen (ordinary_takeSense _) Restarted.takeSense

end Sys2Proof.Machine
end

section
/-! Every command in every state (`exec_outcome`), and the statements that follow from it: O1, O2, O5, O6, O7
and O10. -/

namespace Sys2Proof.Machine

/-! ### All 63 commands -/

/-- The management commands that read or write the event unit (R166, R168, R169). -/
inductive EventsRead (e : EventUnit) : EventUnit → Prop where
  | removed (n : Nat) : EventsRead e { e with queue := e.queue.drop n }
  | cleared : EventsRead e { e with flags := 0, mint := mintLevel 0 e.enables }
  | enabled (w : BitVec 15) : EventsRead e { e with enables := w, mint := mintLevel e.flags w }

/-- What a command can do to the waiting commands, the mode controller and the event unit. -/
inductive Outcome (i : Instr) (s t : State) : Prop where
  | ordinary (h : Ordinary s t)
  | started (h : Inner s t) (hsafe : s.pins.safeHigh = true)
      (hi : (i = .start [] ∧ s.ctl.mode = .config) ∨ (i = .resume [] ∧ s.ctl.mode = .safe))
  | restarted (h : Restarted s t)
  | stored (a : Addr) (w : Half) (l : Byte) (hpending : t.pending = s.pending) (hev : t.ev = s.ev)
      (hctl : t.ctl = { s.ctl with heartbeatAddress := a, heartbeatTimeout := w, stallLimit := l })
      (hw : w = 0 ∨ 10 ≤ w.toNat ∧ w.toNat ≤ 60000) (hl : 1 ≤ l.toNat ∧ l.toNat ≤ 250)
  | read (hpending : t.pending = s.pending) (hctl : t.ctl = s.ctl) (hev : EventsRead s.ev t.ev)

theorem OrdinaryOrRestart.outcome {i : Instr} {s t : State} (h : OrdinaryOrRestart s t) : Outcome i s t :=
  h.elim .ordinary .restarted

/-- A request: refused or not taken, it changes the management port alone. -/
theorem Outcome.takeRequest {i : Instr} {n : Nat} {a : Acceptance} {p : List Byte} {s t : State}
    (h : p.length = n → takenIn a s.ctl.mode = true → Outcome i s t) :
    Outcome i s (takeRequest n a p s t) := by
  rcases takeRequest_cases n a p s t with e | ⟨-, r, e⟩ | ⟨-, -, hlen, hmode, e⟩ <;> rw [e]
  · exact .ordinary (.refl s)
  · exact .ordinary (ordinary_respond r [] s)
  · exact h hlen hmode

/-- Settings that pass both checks lie in their ranges (R154). -/
theorem settings_of_settingsFailure {p : List Byte} (h : settingsFailure p = none) :
    (halfAt p 3 = 0 ∨ 10 ≤ (halfAt p 3).toNat ∧ (halfAt p 3).toNat ≤ 60000) ∧
      1 ≤ (byteAt p 5).toNat ∧ (byteAt p 5).toNat ≤ 250 := by
  unfold settingsFailure at h
  dsimp only at h
  split at h
  · cases h
  · rename_i hw
    split at h
    · cases h
    · rename_i hl
      simp only [Config.heartbeatMin, Config.heartbeatMax] at hw
      simp only [Config.stallLimitMax] at hl
      have hzero : (halfAt p 3).toNat = 0 → halfAt p 3 = 0 := fun e => BitVec.eq_of_toNat_eq e
      refine ⟨?_, by omega⟩
      by_cases h0 : (halfAt p 3).toNat = 0
      · exact .inl (hzero h0)
      · exact .inr (by omega)

theorem outcome_setDevice (p : List Byte) (s : State) :
    ∃ t, exec (.setDevice p) s = .next t ∧ Outcome (.setDevice p) s t := by
  refine ⟨_, rfl, .takeRequest fun _ _ => ?_⟩
  split
  · exact .ordinary (ordinary_respond _ _ s)
  · rename_i hsettings
    obtain ⟨hw, hl⟩ := settings_of_settingsFailure hsettings
    split
    · exact .ordinary (ordinary_respond _ _ s)
    · exact .stored _ _ _ rfl rfl rfl hw hl

theorem ordinary_setChannel (p : List Byte) (s : State) :
    ∃ t, exec (.setChannel p) s = .next t ∧ Ordinary s t := by
  refine ⟨_, rfl, .takeRequest fun _ => .withChannel fun c => ?_⟩
  dsimp only
  split
  · exact ordinary_respond _ _ s
  · exact .ite (ordinary_respond _ _ s) (ordinary_takeSetChannel c _ s)

theorem ordinary_clearChannel (p : List Byte) (s : State) :
    ∃ t, exec (.clearChannel p) s = .next t ∧ Ordinary s t := by
  refine ⟨_, rfl, .takeRequest fun _ => .withChannel fun c => ?_⟩
  split
  · exact ordinary_respond _ _ s
  · exact ((ordinary_detach c s).trans (calm_modChan c _ _).ordinary).respond

/-- START and RESUME (R143, R145). -/
theorem outcome_begin {i : Instr} {a : Acceptance} {p : List Byte} {s : State}
    (hi : p = [] → takenIn a s.ctl.mode = true →
      (i = .start [] ∧ s.ctl.mode = .config) ∨ (i = .resume [] ∧ s.ctl.mode = .safe)) :
    Outcome i s (takeRequest 0 a p s
      (if s.pins.safeHigh then respond .accepted [] (arbitrate (beginRun s))
        else respond .safeLine [] s)) := by
  refine .takeRequest fun hlen hmode => ?_
  have hstart := hi (List.eq_nil_of_length_eq_zero hlen) hmode
  split
  · rename_i hsafe
    refine .started ?_ hsafe hstart
    have hrun : s.ctl.mode ≠ .run := by
      rcases hstart with ⟨-, e⟩ | ⟨-, e⟩ <;> simp [e]
    exact ((inner_beginRun hrun).trans (inner_arbitrate _)).trans (ordinary_respond _ _ _).1
  · exact .ordinary (ordinary_respond _ _ s)

theorem ordinary_stop (p : List Byte) (s : State) : ∃ t, exec (.stop p) s = .next t ∧ Ordinary s t := by
  refine ⟨_, rfl, .takeRequest fun _ => ?_⟩
  split
  · have hleft : Ordinary s (leaveRun .enteringConfig s) :=
      ⟨inner_leaveRun .enteringConfig s, away_leaveRun (by simp [TowardRun]) s⟩
    exact hleft.arbitrate.respond
  · rename_i hrun
    have hdone : Ordinary s (completeConfig s) :=
      ⟨inner_completeConfig hrun, .of_mode (m := .config) (by simp [completeConfig])⟩
    exact hdone.respond

theorem ordinary_enterSafe (p : List Byte) (s : State) :
    ∃ t, exec (.enterSafe p) s = .next t ∧ Ordinary s t := by
  refine ⟨_, rfl, .takeRequest fun _ => ?_⟩
  have hleft : Ordinary s (leaveRunToSafe .command s) :=
    ⟨inner_leaveRunToSafe .command s, away_leaveRunToSafe .command s⟩
  exact .ite hleft.arbitrate.respond (ordinary_respond _ _ s)

theorem ordinary_clearFault (p : List Byte) (s : State) :
    ∃ t, exec (.clearFault p) s = .next t ∧ Ordinary s t := by
  refine ⟨_, rfl, .takeRequest fun _ => .withChannel fun c => ?_⟩
  split
  · exact ordinary_respond _ _ s
  · refine .ite (ordinary_respond _ _ s) (.ite ?_ ?_)
    · exact (local_clearFaultInRun c _ s).toCalm.ordinary.arbitrate.respond
    · exact (local_clearFaultInSafe c _ s).toCalm.ordinary.respond

theorem ordinary_purge (p : List Byte) (s : State) : ∃ t, exec (.purge p) s = .next t ∧ Ordinary s t := by
  refine ⟨_, rfl, .takeRequest fun _ => .withChannel fun c => .ite (ordinary_respond _ _ s) ?_⟩
  have hpurged := (local_emptyQueue c s).trans
    (local_recordChannel c .queuePurged c (BitVec.ofNat 8 (s.chan c).queue.length) _)
  exact (hpurged.trans (local_reexamine c _)).toCalm.ordinary.respond

theorem ordinary_queueWrite (p : List Byte) (s : State) :
    ∃ t, exec (.queueWrite p) s = .next t ∧ Ordinary s t := by
  refine ⟨_, rfl, .takeRequest fun _ => .withChannel fun c => ?_⟩
  dsimp only
  split
  · exact (calm_recordChannel _ c _ s).ordinary.respond
  · exact .ite (calm_recordChannel _ c _ s).ordinary.respond (ordinary_queueWriteExamined c _ _ s)

theorem outcome_readEvents (p : List Byte) (s : State) :
    ∃ t, exec (.readEvents p) s = .next t ∧ Outcome (.readEvents p) s t := by
  refine ⟨_, rfl, .takeRequest fun _ _ => ?_⟩
  dsimp only
  split
  · exact .ordinary (ordinary_respond _ _ s)
  · exact .read rfl rfl (.removed _)

theorem outcome_setEnables (p : List Byte) (s : State) :
    ∃ t, exec (.setEnables p) s = .next t ∧ Outcome (.setEnables p) s t := by
  refine ⟨_, rfl, .takeRequest fun _ _ => ?_⟩
  split
  · exact .ordinary (ordinary_respond _ _ s)
  · exact .read rfl rfl (.enabled _)

theorem ordinary_badCommand (frame : List Byte) (s : State) :
    ∃ t, exec (.badCommand frame) s = .next t ∧ Ordinary s t := by
  refine ⟨_, rfl, ?_⟩
  split
  · exact .refl s
  · split
    · exact .refl s
    · exact (ordinary_respond _ _ s).onEvent

theorem outcome_transactionClose (s : State) :
    ∃ t, exec .transactionClose s = .next t ∧ Outcome .transactionClose s t := by
  refine ⟨_, rfl, ?_⟩
  have hpin : Ordinary s (setSelect false s) := .of_eq rfl
  split
  · exact .ordinary (.refl s)
  · split
    · rcases closeTransaction_outcome (setSelect false s) with h | h
      · exact .ordinary (hpin.trans h)
      · exact .restarted (h.after hpin)
    · exact .ordinary hpin

/-- The six kinds of host cycle and their end. -/
theorem ordinary_governedRead (a : Addr) (s : State) :
    ∃ t, exec (.governedRead a) s = .next t ∧ Ordinary s t := by
  refine ⟨_, rfl, ?_⟩
  split
  · exact .refl s
  · exact .onArrival (calm_governedReadArrives a _ s).ordinary

theorem ordinary_governedWrite (a : Addr) (v : Byte) (s : State) :
    ∃ t, exec (.governedWrite a v) s = .next t ∧ Ordinary s t := by
  refine ⟨_, rfl, ?_⟩
  split
  · exact .refl s
  · exact .onArrival (calm_governedWriteArrives a v _ s).ordinary

theorem ordinary_hostCycleEnd (s : State) : ∃ t, exec .hostCycleEnd s = .next t ∧ Ordinary s t :=
  ⟨_, rfl, .ite (calm_strobesReleased s).ordinary (.ite (.of_eq rfl) (.refl s))⟩

/-- A pass-through cycle that ends, however it is answered (R112, R113). -/
theorem ordinary_passThroughCompletion (dd : Byte) (s : State) :
    ∃ t, exec (.passThroughCompletion dd) s = .next t ∧ Ordinary s t := by
  refine ⟨_, rfl, ?_⟩
  split
  · exact .refl s
  · refine Ordinary.onEvent (Ordinary.trans ?_ (ordinary_endPass _))
    have hanswered (answer : Option Byte) : Ordinary s (answerHost .normal answer (freeBus s)) :=
      ((calm_freeBus s).trans (calm_answerHost .normal answer _)).ordinary
    exact .ite ((hanswered _).trans (ordinary_reportHeartbeat _)) (hanswered _)

theorem ordinary_passTimeout (s : State) : ∃ t, exec .passTimeout s = .next t ∧ Ordinary s t := by
  refine ⟨_, rfl, ?_⟩
  split
  · exact .refl s
  · refine Ordinary.onEvent (Ordinary.trans ?_ (ordinary_endPass _))
    exact (((calm_freeBus s).trans (calm_answerHost _ _ _)).trans (calm_record _ _ _ _ _ _)).ordinary

theorem ordinary_driveCompletion (s : State) : ∃ t, exec .driveCompletion s = .next t ∧ Ordinary s t := by
  refine ⟨_, rfl, ?_⟩
  split
  · refine Ordinary.onEvent (Ordinary.trans ?_ (ordinary_endDrive _ _))
    split
    · exact ((calm_freeBus s).trans (local_creditCompletion _ _).toCalm).ordinary
    · exact (calm_freeBus s).ordinary
  · exact .refl s
  · exact .refl s

theorem ordinary_driveTimeout (s : State) : ∃ t, exec .driveTimeout s = .next t ∧ Ordinary s t := by
  refine ⟨_, rfl, ?_⟩
  split
  · rename_i f _
    have hfreed := (calm_freeBus s).trans (calm_recordChannel .driveTimeout f.channel f.value _)
    refine Ordinary.onEvent (Ordinary.trans ?_ (ordinary_endDrive _ _))
    split
    · exact (hfreed.trans (local_chargeTimeout f _).toCalm).ordinary
    · exact hfreed.ordinary
  · exact .refl s
  · exact .refl s

theorem ordinary_stallTimeout (s : State) : ∃ t, exec .stallTimeout s = .next t ∧ Ordinary s t := by
  refine ⟨_, rfl, ?_⟩
  split
  · exact .refl s
  · exact ((calm_recordChannel _ _ _ s).trans (calm_answerHost _ _ _)).ordinary.onEvent

theorem ordinary_stallReexamine (s : State) : ∃ t, exec .stallReexamine s = .next t ∧ Ordinary s t := by
  refine ⟨_, rfl, ?_⟩
  split
  · exact .refl s
  · exact (local_reexamine _ s).toCalm.ordinary.arbitrate.onEvent

theorem ordinary_senseChange (c : Chan) (high : Bool) (s : State) :
    ∃ t, exec (.senseChange c high) s = .next t ∧ Ordinary s t := by
  refine ⟨_, rfl, ?_⟩
  have hpin : Ordinary s { s with pins := { s.pins with sense := s.pins.sense.set c.val high } } := .of_eq rfl
  exact .ite (hpin.trans (local_actOnSense c _).toCalm.ordinary) hpin

theorem ordinary_safeLineFall (s : State) : ∃ t, exec .safeLineFall s = .next t ∧ Ordinary s t := by
  refine ⟨_, rfl, ?_⟩
  have hpin : Ordinary s (setSafePin false s) := .of_eq rfl
  exact .ite (hpin.trans ⟨inner_actOnSafeLow _, away_actOnSafeLow _⟩).arbitrate hpin

theorem ordinary_complete {s t : State} {b : Bool} (h : b = true → Ordinary s t) :
    Ordinary s (s.onEvent b t) := by
  unfold State.onEvent
  split
  · rename_i hb
    exact h (Bool.and_elim_right hb)
  · exact .refl s

theorem ordinary_enteringRunComplete (s : State) :
    ∃ t, exec .enteringRunComplete s = .next t ∧ Ordinary s t := by
  refine ⟨_, rfl, ordinary_complete fun hb => ⟨inner_completeRun s, fun _ => .inr ?_⟩⟩
  simp only [Bool.and_eq_true, beq_iff_eq] at hb
  exact hb.1

theorem ordinary_enteringSafeComplete (s : State) :
    ∃ t, exec .enteringSafeComplete s = .next t ∧ Ordinary s t := by
  refine ⟨_, rfl, ordinary_complete fun hb => ?_⟩
  simp only [Bool.and_eq_true, beq_iff_eq] at hb
  exact ⟨inner_completeSafe (by simp [hb.1]), .of_mode (m := .safe) rfl⟩

theorem ordinary_enteringConfigComplete (s : State) :
    ∃ t, exec .enteringConfigComplete s = .next t ∧ Ordinary s t := by
  refine ⟨_, rfl, ordinary_complete fun hb => ?_⟩
  simp only [Bool.and_eq_true, beq_iff_eq] at hb
  exact ⟨inner_completeConfig (by simp [hb.1]), .of_mode (m := .config) (by simp [completeConfig])⟩

theorem ordinary_timestampTick (s : State) : ∃ t, exec .timestampTick s = .next t ∧ Ordinary s t :=
  ⟨_, rfl, (((ordinary_takeDue s).trans
    (Calm.foldl calm_takeAppendedOf allChans _).ordinary).trans (ordinary_advanceTime _)).onEvent⟩

theorem outcome_clkRunsAgain (s : State) :
    ∃ t, exec .clkRunsAgain s = .next t ∧ Outcome .clkRunsAgain s t := by
  refine ⟨_, rfl, ?_⟩
  split
  · exact .ordinary (.refl s)
  · have hclock : Ordinary s (setClock true s) := .of_eq rfl
    rcases takeInputs_outcome (Config.inputOrder s.ctl.timestamp) (setClock true s) with h | h
    · exact .ordinary (hclock.trans h)
    · exact .restarted (h.after hclock)

/-- A reset comes after the level of its pin (R157). -/
theorem outcome_reset {i : Instr} {b : Prop} [Decidable b] {s t : State} (h : Ordinary s t) :
    Outcome i s (if b then s else resetPart t) := by
  split
  · exact .ordinary (.refl s)
  · exact .restarted ((restarted_resetPart t).after h)

theorem outcome_of_ordinary {i : Instr} {s : State} (h : ∃ t, exec i s = .next t ∧ Ordinary s t) :
    ∃ t, exec i s = .next t ∧ Outcome i s t := by
  obtain ⟨t, ht, hordinary⟩ := h
  exact ⟨t, ht, .ordinary hordinary⟩

/-- Every command answers a next state, by one of the five outcomes. -/
theorem exec_outcome (i : Instr) (s : State) : ∃ t, exec i s = .next t ∧ Outcome i s t := by
  cases i with
  | getInfo p | getStatus p =>
    exact ⟨_, rfl, .ordinary (.takeRequest fun _ => ordinary_respond _ _ s)⟩
  | getChannel p =>
    exact ⟨_, rfl, .ordinary (.takeRequest fun _ => .withChannel fun _ => ordinary_respond _ _ s)⟩
  | resetDevice p => exact ⟨_, rfl, .ordinary (.takeRequest fun _ => .of_eq rfl)⟩
  | setDevice p => exact outcome_setDevice p s
  | setChannel p => exact outcome_of_ordinary (ordinary_setChannel p s)
  | clearChannel p => exact outcome_of_ordinary (ordinary_clearChannel p s)
  | start p =>
    refine ⟨_, rfl, outcome_begin fun hp hmode => .inl ⟨by rw [hp], ?_⟩⟩
    simpa [takenIn] using hmode
  | resume p =>
    refine ⟨_, rfl, outcome_begin fun hp hmode => .inr ⟨by rw [hp], ?_⟩⟩
    simpa [takenIn] using hmode
  | stop p => exact outcome_of_ordinary (ordinary_stop p s)
  | enterSafe p => exact outcome_of_ordinary (ordinary_enterSafe p s)
  | clearFault p => exact outcome_of_ordinary (ordinary_clearFault p s)
  | purge p => exact outcome_of_ordinary (ordinary_purge p s)
  | queueWrite p => exact outcome_of_ordinary (ordinary_queueWrite p s)
  | readEvents p => exact outcome_readEvents p s
  | readFlags p => exact ⟨_, rfl, .takeRequest fun _ _ => .read rfl rfl .cleared⟩
  | setEnables p => exact outcome_setEnables p s
  | badCommand frame => exact outcome_of_ordinary (ordinary_badCommand frame s)
  | transactionOpen => exact ⟨_, rfl, .ordinary (.ite (.refl s) (.ite (.of_eq rfl) (.of_eq rfl)))⟩
  | transactionClose => exact outcome_transactionClose s
  | heldSetChannelAccept => exact ⟨_, rfl, .ordinary (ordinary_acceptHeld s).arbitrate.onEvent⟩
  | governedRead a => exact outcome_of_ordinary (ordinary_governedRead a s)
  | governedWrite a v => exact outcome_of_ordinary (ordinary_governedWrite a v s)
  | passThroughArrival a data => exact ⟨_, rfl, .ordinary (.onArrival (calm_passArrives a data s).ordinary)⟩
  | invalidCycle a => exact ⟨_, rfl, .ordinary (.onArrival (calm_invalidArrives a s).ordinary)⟩
  | hostCycleInReset kind a v =>
    exact ⟨_, rfl, .ordinary (.onArrival (calm_arrivesInReset (strobesOf kind a v) s).ordinary)⟩
  | hostCycleEnd => exact outcome_of_ordinary (ordinary_hostCycleEnd s)
  | passThroughIssue | driveIssue => exact ⟨_, rfl, .ordinary (calm_arbitrate s).ordinary.onEvent⟩
  | passThroughCompletion dd => exact outcome_of_ordinary (ordinary_passThroughCompletion dd s)
  | passTimeout => exact outcome_of_ordinary (ordinary_passTimeout s)
  | driveCompletion => exact outcome_of_ordinary (ordinary_driveCompletion s)
  | driveTimeout => exact outcome_of_ordinary (ordinary_driveTimeout s)
  | stallTimeout => exact outcome_of_ordinary (ordinary_stallTimeout s)
  | stallReexamine => exact outcome_of_ordinary (ordinary_stallReexamine s)
  | holdHeadTake c => exact ⟨_, rfl, .ordinary (calm_holdHeadTakes c s).ordinary⟩
  | trainHeadTake c => exact ⟨_, rfl, .ordinary (calm_trainHeadTakes c s).ordinary⟩
  | minHoldExpiry c => exact ⟨_, rfl, .ordinary (calm_minHoldExpires c s).ordinary⟩
  | maxHoldExpiry c => exact ⟨_, rfl, .ordinary (calm_maxHoldExpires c s).ordinary⟩
  | holdRecoveryEnd c => exact ⟨_, rfl, .ordinary (calm_holdRecoveryEnds c s).ordinary⟩
  | markExpiry c => exact ⟨_, rfl, .ordinary (calm_markExpires c s).ordinary⟩
  | spaceExpiry c => exact ⟨_, rfl, .ordinary (calm_spaceExpires c s).ordinary⟩
  | pauseExpiry c => exact ⟨_, rfl, .ordinary (calm_pauseExpires c s).ordinary⟩
  | trainRecoveryEnd c => exact ⟨_, rfl, .ordinary (calm_trainRecoveryEnds c s).ordinary⟩
  | grant g => exact ⟨_, rfl, .ordinary (local_passToken 0 g s).toCalm.ordinary.arbitrate.onEvent⟩
  | settleExpiry c => exact ⟨_, rfl, .ordinary (local_settleExpires c s).toCalm.ordinary⟩
  | filterExpiry c => exact ⟨_, rfl, .ordinary (calm_filterExpires c s).ordinary⟩
  | senseChange c high => exact outcome_of_ordinary (ordinary_senseChange c high s)
  | heartbeatExpiry => exact ⟨_, rfl, .ordinary (ordinary_heartbeatExpires s)⟩
  | safeLineFall => exact outcome_of_ordinary (ordinary_safeLineFall s)
  | safeLineRise | clkStops => exact ⟨_, rfl, .ordinary (.of_eq rfl)⟩
  | resetAssert => exact ⟨_, rfl, outcome_reset (.of_eq rfl)⟩
  | supplyFall =>
    refine ⟨_, rfl, ?_⟩
    split
    · refine .restarted (Restarted.after ?_ (restarted_resetPart _))
      exact .of_eq rfl
    · exact .ordinary (.refl s)
  | resetRelease | supplyWithinRange => exact ⟨_, rfl, .ordinary (ordinary_endHold (.of_eq rfl))⟩
  | enteringRunComplete => exact outcome_of_ordinary (ordinary_enteringRunComplete s)
  | enteringSafeComplete => exact outcome_of_ordinary (ordinary_enteringSafeComplete s)
  | enteringConfigComplete => exact outcome_of_ordinary (ordinary_enteringConfigComplete s)
  | timestampTick => exact outcome_of_ordinary (ordinary_timestampTick s)
  | clkRunsAgain => exact outcome_clkRunsAgain s
  | syncByteSent | responseCrcSent =>
    exact ⟨_, rfl, .ordinary (Ordinary.onEvent (.of_eq rfl))⟩

theorem exec_next {i : Instr} {s t : State} (h : exec i s = .next t) : Outcome i s t := by
  obtain ⟨u, hu, houtcome⟩ := exec_outcome i s
  obtain rfl : u = t := by
    rw [hu] at h
    exact Host.Outcome.next.inj h
  exact houtcome

end Sys2Proof.Machine
end

section
/-! The statements about every command or step that `exec_outcome` settles: O1, O2, O5, O6, O7 and O10. -/

namespace Sys2Proof.Machine

/-! ### The queue of waiting commands -/

theorem step_cons {s : State} {c : Instr} {rest : List Instr} (h : s.pending = c :: rest) :
    step s = exec c { s with pending := rest } := by
  simp [step, h]

theorem step_nil {s : State} (h : s.pending = []) : step s = .next s := by
  simp [step, h]

/-- Settles O1: the two branches of `step`. -/
theorem stepTakesFrontCommand : Obligations.StepTakesFrontCommand :=
  ⟨fun _ _ _ => step_cons, fun _ => step_nil⟩

theorem Outcome.pending {i : Instr} {s t : State} (h : Outcome i s t) : t.pending = s.pending := by
  cases h with
  | ordinary h => exact h.1.pending
  | started h => exact h.pending
  | restarted h => exact h.pending
  | stored _ _ _ hpending => exact hpending
  | read hpending => exact hpending

/-- Settles O2: each of the five outcomes is a next state with the waiting commands kept. -/
theorem everyCommandAnswersNext : Obligations.EveryCommandAnswersNext := by
  intro i s
  obtain ⟨t, ht, houtcome⟩ := exec_outcome i s
  exact ⟨t, ht, houtcome.pending⟩

/-- A step idles, or is the outcome of a command in a state that differs in the waiting commands alone. -/
theorem step_next {s t : State} (h : step s = .next t) :
    t = s ∨ ∃ i rest, s.pending = i :: rest ∧ exec i { s with pending := rest } = .next t := by
  cases hp : s.pending with
  | nil =>
    rw [step_nil hp] at h
    exact .inl (Host.Outcome.next.inj h).symm
  | cons i rest =>
    rw [step_cons hp] at h
    exact .inr ⟨i, rest, rfl, h⟩

/-! ### MINT# (R167) -/

theorem Logged.mintLaw {e f : EventUnit} (h : Logged e f) (he : e.mint = mintLevel e.flags e.enables) :
    f.mint = mintLevel f.flags f.enables := by
  induction h with
  | refl => exact he
  | store r _ _ _ => exact EventUnit.store_mint r _

theorem EventsRead.mintLaw {e f : EventUnit} (h : EventsRead e f)
    (he : e.mint = mintLevel e.flags e.enables) : f.mint = mintLevel f.flags f.enables := by
  cases h with
  | removed _ => exact he
  | cleared => rfl
  | enabled _ => rfl

theorem Outcome.mintLaw {i : Instr} {s t : State} (h : Outcome i s t) (hs : MintLaw s) : MintLaw t := by
  cases h with
  | ordinary h => exact h.1.log.mintLaw hs
  | started h => exact h.log.mintLaw hs
  | restarted h => rw [MintLaw, h.ev]; rfl
  | stored _ _ _ _ hev => rw [MintLaw, hev]; exact hs
  | read _ _ hev => exact hev.mintLaw hs

/-- R167 over single flags, as the statement says it, is the law over the two words. -/
theorem mintLaw_iff {s : State} :
    MintLaw s ↔ (s.ev.mint = true ↔ ∃ n : Fin 15, s.ev.flags.getLsbD n = true ∧
      s.ev.enables.getLsbD n = true) := by
  rw [MintLaw, ← mintLevel_iff, Bool.eq_iff_iff]

/-- Settles O5: storing a record, reading the flags and writing the enables each bring MINT# to its level. -/
theorem mintFollowsFlagsAndEnables : Obligations.MintFollowsFlagsAndEnables := by
  intro s t hs hstep
  rw [← mintLaw_iff] at hs ⊢
  rcases step_next hstep with rfl | ⟨i, rest, -, hexec⟩
  · exact hs
  · exact (exec_next hexec).mintLaw hs

/-! ### The event queue (R162, R164) -/

/-- What storing records one after another leaves, said over the whole run of them: those kept at the tail, the
others dropped at a full queue with OVERFLOW set. -/
structure Appended (e f : EventUnit) (created : List EventRecord) (dropped : Nat) : Prop where
  queue : f.queue = e.queue ++ created
  room : f.queue.length ≤ 32
  stamps : created.map (·.sequence) =
    (List.range created.length).map fun i => e.sequence + BitVec.ofNat 16 i
  sequence : f.sequence = e.sequence + BitVec.ofNat 16 (created.length + dropped)
  full : dropped ≠ 0 → f.queue.length = 32 ∧ f.flags.getLsbD 0 = true

theorem Appended.nil {e : EventUnit} (h : e.queue.length ≤ 32) : Appended e e [] 0 :=
  ⟨by simp, h, rfl, by simp, fun h => absurd rfl h⟩

/-- The next number after `n` records. -/
theorem ofNat_succ_add (w : Half) (n : Nat) :
    w + BitVec.ofNat 16 n + 1 = w + BitVec.ofNat 16 (n + 1) := by
  rw [BitVec.add_assoc]
  congr 1
  exact (BitVec.ofNat_add n 1).symm

theorem Appended.store_room {e f : EventUnit} {created : List EventRecord} {r : EventRecord}
    (h : Appended e f created 0) (hr : r.sequence = f.sequence) (hroom : f.queue.length < 32) :
    Appended e (f.store r) (created ++ [r]) 0 where
  queue := by rw [EventUnit.store_queue_of_room hroom, h.queue, List.append_assoc]
  room := by rw [EventUnit.store_queue_of_room hroom, List.length_append, List.length_singleton]; omega
  stamps := by
    have hstamp : r.sequence = e.sequence + BitVec.ofNat 16 created.length := hr.trans h.sequence
    rw [List.map_append, h.stamps, List.length_append, List.length_singleton, List.range_succ,
      List.map_append, List.map_singleton, List.map_singleton, hstamp]
  sequence := by
    rw [EventUnit.store_sequence, h.sequence, ofNat_succ_add, List.length_append]
    rfl
  full := fun h => absurd rfl h

theorem Appended.store_full {e f : EventUnit} {created : List EventRecord} {dropped : Nat} {r : EventRecord}
    (h : Appended e f created dropped) (hfull : 32 ≤ f.queue.length) :
    Appended e (f.store r) created (dropped + 1) where
  queue := by rw [EventUnit.store_queue_of_full hfull, h.queue]
  room := by rw [EventUnit.store_queue_of_full hfull]; exact h.room
  stamps := h.stamps
  sequence := by rw [EventUnit.store_sequence, h.sequence, ofNat_succ_add]; rfl
  full := fun _ => by
    refine ⟨by rw [EventUnit.store_queue_of_full hfull]; exact Nat.le_antisymm h.room hfull, ?_⟩
    have hflag := EventUnit.getLsbD_store_flags r f 0
    simpa [hfull] using hflag

/-- Once a record has been dropped the queue is full, so that every later one is dropped too. -/
theorem Logged.appended {e f : EventUnit} (h : Logged e f) (he : e.queue.length ≤ 32) :
    ∃ created dropped, Appended e f created dropped := by
  induction h with
  | refl => exact ⟨[], 0, .nil he⟩
  | @store f r hr _ ih =>
    obtain ⟨created, dropped, happended⟩ := ih
    rcases Nat.lt_or_ge f.queue.length 32 with hroom | hfull
    · have hnone : dropped = 0 := by
        by_contra hdropped
        have := (happended.full hdropped).1
        omega
      subst hnone
      exact ⟨created ++ [r], 0, happended.store_room hr hroom⟩
    · exact ⟨created, dropped + 1, happended.store_full hfull⟩

/-- The conclusion of O6, of an event unit before and after. -/
def QueueKept (e f : EventUnit) : Prop :=
  f = EventUnit.reset ∨
    ∃ (gone : Nat) (created : List EventRecord) (dropped : Nat),
      f.queue = e.queue.drop gone ++ created ∧ f.queue.length ≤ 32 ∧
      created.map (·.sequence) =
        (List.range created.length).map (fun i => e.sequence + BitVec.ofNat 16 i) ∧
      f.sequence = e.sequence + BitVec.ofNat 16 (created.length + dropped) ∧
      (dropped ≠ 0 → f.queue.length = 32 ∧ f.flags.getLsbD 0 = true)

theorem Logged.queueKept {e f : EventUnit} (h : Logged e f) (he : e.queue.length ≤ 32) : QueueKept e f := by
  obtain ⟨created, dropped, ha⟩ := h.appended he
  exact .inr ⟨0, created, dropped, ha.queue, ha.room, ha.stamps, ha.sequence, ha.full⟩

/-- No record is created where records are read, the flags cleared or the enables written. -/
theorem EventsRead.queueKept {e f : EventUnit} (h : EventsRead e f) (he : e.queue.length ≤ 32) :
    QueueKept e f := by
  cases h with
  | removed n =>
    refine .inr ⟨n, [], 0, by simp, ?_, rfl, by simp, fun h => absurd rfl h⟩
    rw [List.length_drop]
    omega
  | cleared => exact .inr ⟨0, [], 0, by simp, he, rfl, by simp, fun h => absurd rfl h⟩
  | enabled _ => exact .inr ⟨0, [], 0, by simp, he, rfl, by simp, fun h => absurd rfl h⟩

theorem Outcome.queueKept {i : Instr} {s t : State} (h : Outcome i s t) (hs : s.ev.queue.length ≤ 32) :
    QueueKept s.ev t.ev := by
  cases h with
  | ordinary h => exact h.1.log.queueKept hs
  | started h => exact h.log.queueKept hs
  | restarted h => exact .inl h.ev
  | stored _ _ _ _ hev => rw [hev]; exact Logged.refl.queueKept hs
  | read _ _ hev => exact hev.queueKept hs

/-- Settles O6: a reset, records stored one after another, or records read. -/
theorem eventQueueKeepsItsLaw : Obligations.EventQueueKeepsItsLaw := by
  intro s t hs hstep
  rcases step_next hstep with rfl | ⟨i, rest, -, hexec⟩
  · exact Logged.refl.queueKept hs
  · exact (exec_next hexec).queueKept hs

/-! ### The heartbeat timer and the settings (R151, R154) -/

theorem Outcome.heartbeatLaw {i : Instr} {s t : State} (h : Outcome i s t) (hs : HeartbeatLaw s) :
    HeartbeatLaw t := by
  cases h with
  | ordinary h => exact h.1.heartbeat hs
  | started h => exact h.heartbeat hs
  | restarted h =>
    rw [HeartbeatLaw, h.ctl]
    intro hrunning
    cases hrunning
  | stored _ _ _ _ _ hctl => rw [HeartbeatLaw, hctl]; exact hs
  | read _ hctl => rw [HeartbeatLaw, hctl]; exact hs

theorem Inner.settingsLaw {s t : State} (h : Inner s t) (hs : SettingsLaw s) : SettingsLaw t := by
  rw [SettingsLaw, h.timeout, h.limit]
  exact hs

theorem Outcome.settingsLaw {i : Instr} {s t : State} (h : Outcome i s t) (hs : SettingsLaw s) :
    SettingsLaw t := by
  cases h with
  | ordinary h => exact h.1.settingsLaw hs
  | started h => exact h.settingsLaw hs
  | restarted h => rw [SettingsLaw, h.ctl]; decide
  | stored _ _ _ _ _ hctl hw hl => rw [SettingsLaw, hctl]; exact ⟨hw, hl⟩
  | read _ hctl => rw [SettingsLaw, hctl]; exact hs

/-- Settles O7: the two laws over the five outcomes. -/
theorem heartbeatAndSettingsKeepTheirLaws : Obligations.HeartbeatAndSettingsKeepTheirLaws := by
  refine ⟨fun s t hs hstep => ?_, fun s t hs hstep => ?_⟩
  · rcases step_next hstep with rfl | ⟨i, rest, -, hexec⟩
    · exact hs
    · exact (exec_next hexec).heartbeatLaw hs
  · rcases step_next hstep with rfl | ⟨i, rest, -, hexec⟩
    · exact hs
    · exact (exec_next hexec).settingsLaw hs

/-! ### The way toward RUN (R143, R145, R148) -/

/-- Settles O10: of the five outcomes only the start of RUN comes nearer to RUN. -/
theorem onlyStartAndResumeEnterRun : Obligations.OnlyStartAndResumeEnterRun := by
  intro i s t hexec hrun hentering ht
  have hs : ¬ TowardRun s.ctl.mode := fun h => h.elim hrun hentering
  cases exec_next hexec with
  | ordinary h => exact absurd (h.2 ht) hs
  | started _ hsafe hi => exact ⟨hsafe, hi⟩
  | restarted h =>
    rw [h.ctl] at ht
    rcases ht with ht | ht <;> cases ht
  | stored _ _ _ _ _ hctl =>
    rw [hctl] at ht
    exact absurd ht hs
  | read _ hctl =>
    rw [hctl] at ht
    exact absurd ht hs

end Sys2Proof.Machine
end

section
/-! The downstream arbiter's choice (R96, R97), which O17 is about. -/

namespace Sys2Proof.Machine

/-! ### The channel the arbiter picks -/

theorem allChans_pairwise_lt : allChans.Pairwise (· < ·) := by decide

/-- The lowest-numbered channel with a property is the one before which no channel has it. -/
theorem find?_allChans_of_first {p : Chan → Bool} {c : Chan} (hc : p c = true)
    (hlow : ∀ k, k < c → p k = false) : allChans.find? p = some c := by
  obtain ⟨ahead, behind, hsplit⟩ := List.append_of_mem (mem_allChans c)
  rw [List.find?_eq_some_iff_append]
  refine ⟨hc, ahead, behind, hsplit, fun k hk => ?_⟩
  have hsorted := allChans_pairwise_lt
  rw [hsplit, List.pairwise_append] at hsorted
  obtain ⟨-, -, hbefore⟩ := hsorted
  simpa using hlow k (hbefore k hk c (by simp))

theorem lowestPending_eq_some {s : State} {c : Chan} {d : Descriptor} {v : Byte}
    (hv : (s.chan c).slot = some v) (hd : (s.chan c).desc = some d)
    (hlow : ∀ k : Chan, k < c → (s.chan k).slot = none) : s.lowestPending = some c :=
  find?_allChans_of_first (by simp [hv, hd]) fun k hk => by simp [hlow k hk]

theorem lowestPending_eq_none {s : State} (h : ∀ c : Chan, (s.chan c).slot = none) :
    s.lowestPending = none :=
  List.find?_eq_none.mpr fun c _ => by simp [h c]

/-! ### The choice at an IDLE bus -/

theorem arbitrate_rests {s : State} (hbus : s.down.bus = .idle)
    (hslot : ∀ c : Chan, (s.chan c).slot = none) (hport : s.port.state ≠ .passWait) :
    arbitrate s = { s with down := { s.down with burst := 0 } } := by
  simp [arbitrate, hbus, lowestPending_eq_none hslot, hport]

theorem arbitrate_issues_pass {s : State} (hbus : s.down.bus = .idle) (hport : s.port.state = .passWait)
    (hturn : (∀ c : Chan, (s.chan c).slot = none) ∨ s.down.burst = 4) : arbitrate s = issuePass s := by
  rcases hturn with hslot | hburst
  · simp [arbitrate, hbus, hport, lowestPending_eq_none hslot]
  · cases hl : s.lowestPending <;> simp [arbitrate, hbus, hport, hl, hburst, Config.burstLimit]

theorem arbitrate_issues_drive {s : State} {c : Chan} (hbus : s.down.bus = .idle)
    (hlow : s.lowestPending = some c) (hturn : ¬ (s.port.state = .passWait ∧ s.down.burst = 4)) :
    arbitrate s = issueDrive c s := by
  simp only [arbitrate, hbus, hlow, Config.burstLimit, hturn, if_false]

/-! ### The rows of the choice -/

theorem exec_passThroughIssue {s : State} (hlive : s.live = true) (hbus : s.down.bus = .idle)
    (hport : s.port.state = .passWait)
    (hturn : (∀ c : Chan, (s.chan c).slot = none) ∨ s.down.burst = 4) :
    exec .passThroughIssue s = .next (arbitrate s) := by
  change execPassThroughIssue s = _
  rw [execPassThroughIssue, onEvent_taken hlive]
  rcases hturn with hslot | hburst
  · simp [hbus, hport, lowestPending_eq_none hslot]
  · simp [hbus, hport, hburst, Config.burstLimit]

theorem exec_driveIssue {s : State} {c : Chan} (hlive : s.live = true) (hbus : s.down.bus = .idle)
    (hlow : s.lowestPending = some c) (hturn : ¬ (s.port.state = .passWait ∧ s.down.burst = 4)) :
    exec .driveIssue s = .next (arbitrate s) := by
  change execDriveIssue s = _
  rw [execDriveIssue, onEvent_taken hlive]
  simpa [hbus, hlow, Config.burstLimit] using not_and_or.mp hturn

/-- Settles O17: a busy bus is left alone, and at an IDLE one each clause is the choice by the lowest
pending channel and the port. -/
theorem arbiterIssuesByTheTable : Obligations.ArbiterIssuesByTheTable := by
  refine fun s => ⟨arbitrate_busy, arbitrate_rests, fun hbus hport hturn => ?_,
    fun c d v hbus hv hd hlow hturn => ?_⟩
  · exact ⟨arbitrate_issues_pass hbus hport hturn,
      fun hlive => exec_passThroughIssue hlive hbus hport hturn⟩
  · have hpick := lowestPending_eq_some hv hd hlow
    exact ⟨(arbitrate_issues_drive hbus hpick hturn).trans (issueDrive_eq hd hv),
      fun hlive => exec_driveIssue hlive hbus hpick hturn⟩

end Sys2Proof.Machine
end

section
/-! The reports of the management port: GET_STATUS (R190), READ_EVENTS (R168, R192), READ_FLAGS and SET_ENABLES
(R166, R169, R193), which O19, O21 and O22 are about. -/

namespace Sys2Proof.Machine

/-! ### Bytes of the layouts -/

/-- Two bytes, most significant first, give the number back. -/
theorem halfBytes_append (h : Half) : h.extractLsb' 8 8 ++ h.extractLsb' 0 8 = h := by
  have hall : h.extractLsb' 8 8 ++ h.extractLsb' 0 8 = h.extractLsb' 0 16 :=
    BitVec.extractLsb'_append_extractLsb'_eq_extractLsb' rfl
  rw [hall, BitVec.extractLsb'_eq_self]

theorem halfAt_halfBytes (h : Half) (rest : List Byte) : halfAt (halfBytes h ++ rest) 0 = h :=
  halfBytes_append h

/-- Three bytes, most significant first, give the address back. -/
theorem addrAt_addrBytes (a : Addr) (rest : List Byte) : addrAt (addrBytes a ++ rest) 0 = a := by
  change a.extractLsb' 16 8 ++ a.extractLsb' 8 8 ++ a.extractLsb' 0 8 = a
  have hhigh : a.extractLsb' 16 8 ++ a.extractLsb' 8 8 = a.extractLsb' 8 16 :=
    BitVec.extractLsb'_append_extractLsb'_eq_extractLsb' rfl
  have hall : a.extractLsb' 8 16 ++ a.extractLsb' 0 8 = a.extractLsb' 0 24 :=
    BitVec.extractLsb'_append_extractLsb'_eq_extractLsb' rfl
  rw [hhigh, hall, BitVec.extractLsb'_eq_self]

theorem getLsbD_flagWord (flags : BitVec 15) (n : Nat) (h : n < 16) :
    (flagWord flags).getLsbD n = flags.getLsbD n := by
  simp [flagWord, h]

theorem msb_flagWord (flags : BitVec 15) : (flagWord flags).msb = false := by
  rw [BitVec.msb_eq_getLsbD_last, getLsbD_flagWord _ _ (by decide)]
  exact BitVec.getLsbD_of_ge _ _ (by decide)

/-! ### GET_STATUS -/

theorem exec_getStatus {s : State} (hs : Listening s) :
    exec (.getStatus []) s = .next (respond .ok (statusBlock s) s) := by
  obtain ⟨hlive, hphase⟩ := hs
  change execGetStatus [] s = _
  rw [execGetStatus, takeRequest_taken hlive hphase List.length_nil rfl]

theorem modeCode_toNat (m : Mode) :
    (modeCode m).toNat =
      (match m with
        | .config => 0
        | .enteringRun => 1
        | .run => 2
        | .enteringSafe => 3
        | .safe => 4
        | .enteringConfig => 5) := by
  cases m <;> rfl

theorem causeCode_toNat (cause : Option SafeCause) :
    (causeCode cause).toNat =
      (match cause with
        | none => 0
        | some .command => 1
        | some .heartbeat => 2
        | some .safeLine => 3) := by
  rcases cause with _ | cause
  · rfl
  · cases cause <;> rfl

theorem heartbeatRemaining_startTimer {s : State} {d : Nat} (h : s.ctl.heartbeat = startTimer d) :
    heartbeatRemaining s = d := by
  unfold heartbeatRemaining startTimer at *
  by_cases hd : d = 0 <;> simp [h, hd]

theorem heartbeatRemaining_completeRun (s : State) :
    heartbeatRemaining (completeRun s) = s.ctl.heartbeatTimeout.toNat :=
  heartbeatRemaining_startTimer (by simp [completeRun])

theorem exec_enteringRunComplete {s : State} (hlive : s.live = true) (hmode : s.ctl.mode = .enteringRun)
    (hmarks : ∀ c : Chan, (s.chan c).transitionMark = false) :
    exec .enteringRunComplete s = .next (completeRun s) := by
  change execEnteringRunComplete s = _
  rw [execEnteringRunComplete, onEvent_taken hlive (by simp [hmode, (noMarks_iff s).mpr hmarks])]

/-- Settles O19: the block is read byte by byte, and the heartbeat timer has just been started at the entry to
RUN. -/
theorem getStatusReturnsStatusBlock : Obligations.GetStatusReturnsStatusBlock := by
  refine ⟨fun s hs => ⟨statusBlock s, exec_getStatus hs, rfl, modeCode_toNat _, causeCode_toNat _, rfl, rfl,
      fun n => ?_, ?_, fun n => ?_, ?_, longBytes_append s.ctl.timestamp [], rfl, halfBytes_append _⟩,
    fun s h => by simp [heartbeatRemaining, h], fun s k h => by simp [heartbeatRemaining, h],
    fun s t hmode hlive hmarks ht => ?_⟩
  · rw [show halfAt (statusBlock s) 4 = flagWord s.ev.flags from halfBytes_append _]
    exact getLsbD_flagWord _ _ (by omega)
  · rw [show halfAt (statusBlock s) 4 = flagWord s.ev.flags from halfBytes_append _]
    exact msb_flagWord _
  · rw [show halfAt (statusBlock s) 6 = flagWord s.ev.enables from halfBytes_append _]
    exact getLsbD_flagWord _ _ (by omega)
  · rw [show halfAt (statusBlock s) 6 = flagWord s.ev.enables from halfBytes_append _]
    exact msb_flagWord _
  · rw [exec_enteringRunComplete hlive hmode hmarks] at ht
    cases ht
    exact heartbeatRemaining_completeRun s

/-! ### READ_EVENTS -/

theorem kindCode_lt (k : EventKind) : kindCode k < 15 := by
  cases k <;> decide

/-- The presence byte of an event record: bits 0 to 3 say what is present, bits 4 to 7 are zero. -/
def presenceByte (r : EventRecord) : Byte :=
  bitByte r.channel.isSome 0 ||| bitByte r.value.isSome 1 ||| bitByte r.address.isSome 2 |||
    bitByte r.cause.isSome 3

theorem getLsbD_presenceByte (r : EventRecord) :
    (presenceByte r).getLsbD 0 = r.channel.isSome ∧ (presenceByte r).getLsbD 1 = r.value.isSome ∧
    (presenceByte r).getLsbD 2 = r.address.isSome ∧ (presenceByte r).getLsbD 3 = r.cause.isSome ∧
    (presenceByte r).extractLsb' 4 4 = 0 := by
  refine ⟨?_, ?_, ?_, ?_, BitVec.eq_of_getLsbD_eq fun i hi => ?_⟩
  · simp [presenceByte, getLsbD_bitByte, BitVec.getLsbD_or, -BitVec.getLsbD_eq_getElem]
  · simp [presenceByte, getLsbD_bitByte, BitVec.getLsbD_or, -BitVec.getLsbD_eq_getElem]
  · simp [presenceByte, getLsbD_bitByte, BitVec.getLsbD_or, -BitVec.getLsbD_eq_getElem]
  · simp [presenceByte, getLsbD_bitByte, BitVec.getLsbD_or, -BitVec.getLsbD_eq_getElem]
  · have hplaces : 0 ≠ 4 + i ∧ 1 ≠ 4 + i ∧ 2 ≠ 4 + i ∧ 3 ≠ 4 + i := by omega
    simp only [presenceByte, BitVec.getLsbD_extractLsb', BitVec.getLsbD_or, getLsbD_bitByte]
    simp [hplaces]

theorem eventBytes_layout (r : EventRecord) :
    halfAt (eventBytes r) 0 = r.sequence ∧
    halfAt (eventBytes r) 2 ++ halfAt (eventBytes r) 4 = r.timestamp ∧
    (byteAt (eventBytes r) 6).toNat = kindCode r.kind ∧
    byteAt (eventBytes r) 7 = presenceByte r ∧
    (byteAt (eventBytes r) 8).toNat = (r.channel.map (·.val)).getD 0 ∧
    byteAt (eventBytes r) 9 = r.value.getD 0 ∧ addrAt (eventBytes r) 10 = r.address.getD 0 ∧
    byteAt (eventBytes r) 13 = causeCode r.cause := by
  refine ⟨halfBytes_append _, longBytes_append r.timestamp [], ?_, rfl, ?_, rfl,
    addrAt_addrBytes (r.address.getD 0) [], rfl⟩
  · have hcode := kindCode_lt r.kind
    exact Nat.mod_eq_of_lt (by omega)
  · change (match r.channel with
      | none => 0
      | some c => natByte c.val : Byte).toNat = _
    cases r.channel with
    | none => rfl
    | some c => exact Nat.mod_eq_of_lt (by omega)

theorem exec_readEvents {s : State} (hs : Listening s) (n : Byte) :
    exec (.readEvents [n]) s =
      .next (if n.toNat = 0 ∨ 8 < n.toNat then respondBadField 1 s
        else respond .ok (eventsPayload (s.ev.queue.take n.toNat)) (removeEvents n.toNat s)) := by
  obtain ⟨hlive, hphase⟩ := hs
  change execReadEvents [n] s = _
  rw [execReadEvents, takeRequest_taken hlive hphase List.length_singleton rfl]
  rfl

/-- Settles O21: the layout of a record byte by byte, and the two answers by the count asked for. -/
theorem readEventsTakesRecordsFromTheHead : Obligations.ReadEventsTakesRecordsFromTheHead := by
  refine ⟨fun r => ?_, fun s n hs => ⟨fun hout => ?_, fun hin => ?_⟩⟩
  · obtain ⟨hsequence, htime, hkind, hpresence, hchannel, hvalue, haddress, hcause⟩ := eventBytes_layout r
    obtain ⟨hc, hv, ha, hs, hzero⟩ := getLsbD_presenceByte r
    rw [hpresence, hcause]
    exact ⟨rfl, hsequence, htime, hkind, hc, hv, ha, hs, hzero, hchannel, hvalue, haddress,
      causeCode_toNat _⟩
  · rw [exec_readEvents hs, if_pos (by rcases hout with rfl | h <;> simp_all)]
    rfl
  · rw [exec_readEvents hs, if_neg (by omega)]
    simp only [eventsPayload, List.length_take, natByte, removeEvents]

/-! ### READ_FLAGS and SET_ENABLES -/

theorem mintLevel_zero (enables : BitVec 15) : mintLevel 0 enables = false := by
  simp [mintLevel]

theorem exec_readFlags {s : State} (hs : Listening s) :
    exec (.readFlags []) s = .next (respond .ok (halfBytes (flagWord s.ev.flags)) (clearFlags s)) := by
  obtain ⟨hlive, hphase⟩ := hs
  change execReadFlags [] s = _
  rw [execReadFlags, takeRequest_taken hlive hphase List.length_nil rfl]

theorem clearFlags_eq (s : State) :
    clearFlags s = { s with ev := { s.ev with flags := 0, mint := false } } := by
  simp only [clearFlags, EventUnit.updateMint, mintLevel_zero]

theorem exec_setEnables {s : State} (hs : Listening s) (hi lo : Byte) :
    exec (.setEnables [hi, lo]) s =
      .next (if (hi ++ lo).msb then respondBadField 1 s
        else respond .ok [] (writeEnables ((hi ++ lo).setWidth 15) s)) := by
  obtain ⟨hlive, hphase⟩ := hs
  change execSetEnables [hi, lo] s = _
  rw [execSetEnables, takeRequest_taken (n := 2) hlive hphase rfl rfl]
  rfl

/-- Settles O22: the flag word is the flags with bit 15 clear, and the enables are the low bits of the word
sent; the level of MINT# is that of both after either. -/
theorem flagsAndEnablesAreReadAndWritten : Obligations.FlagsAndEnablesAreReadAndWritten := by
  refine ⟨fun s hs => ⟨(flagWord s.ev.flags).extractLsb' 8 8, (flagWord s.ev.flags).extractLsb' 0 8, ?_,
    fun n => ?_⟩, fun s hi lo hs => ⟨fun hbit => ?_, fun hbit => ?_⟩⟩
  · rw [exec_readFlags hs, clearFlags_eq]
    rfl
  · rw [halfBytes_append]
    exact getLsbD_flagWord _ _ n.isLt
  · rw [exec_setEnables hs, BitVec.msb_append]
    simp [hbit, respondBadField]
  · refine ⟨(hi ++ lo).setWidth 15, mintLevel s.ev.flags ((hi ++ lo).setWidth 15), ?_, fun n => ?_,
      mintLevel_iff⟩
    · rw [exec_setEnables hs, BitVec.msb_append]
      simp only [hbit]
      rfl
    · rw [BitVec.getLsbD_setWidth]
      simp

end Sys2Proof.Machine
end

section
/-! Request frames and their refusals (R174, R176, R189), which O14 and O23 are about. -/

namespace Sys2Proof.Machine

/-! ### The shape of a complete frame (R174) -/

/-- A complete frame: two bytes when the length is above 40, else code, length, payload and CRC. -/
inductive Framed : List Byte → Prop
  | short {code len : Byte} (h : 40 < len.toNat) : Framed [code, len]
  | full {code len : Byte} {payload : List Byte} {crc : Byte} (h : len.toNat ≤ 40)
      (hlen : payload.length = len.toNat) : Framed (code :: len :: payload ++ [crc])

theorem frameOf_framed {frame : List Byte} (h : Framed frame) (after : List Byte) :
    frameOf (frame ++ after) = some frame := by
  cases h with
  | short h => simp [frameOf, Config.maxPayload, h]
  | @full code len payload crc h hlen =>
    have htake : (code :: len :: payload ++ [crc] ++ after).take (len.toNat + 3) =
        code :: len :: payload ++ [crc] :=
      List.take_left' (by simp [hlen])
    have hlong : len.toNat + 3 ≤ (code :: len :: payload ++ [crc] ++ after).length := by
      simp [hlen]
    simp only [List.cons_append] at htake hlong
    simp only [frameOf, List.cons_append, Config.maxPayload, Nat.not_lt.mpr h, if_false, hlong, if_true,
      htake]

theorem framed_of_frameOf {bytes frame : List Byte} (h : frameOf bytes = some frame) : Framed frame := by
  unfold frameOf at h
  split at h
  · rename_i code len rest
    split at h
    · rename_i hlen
      cases h
      exact .short hlen
    · rename_i hlen
      split at h
      · rename_i hlong
        cases h
        have hrest : len.toNat + 1 ≤ rest.length := by simp at hlong; omega
        have hsplit : (code :: len :: rest).take (len.toNat + 3) =
            code :: len :: rest.take len.toNat ++ [rest[len.toNat]] := by
          rw [List.take_succ_cons, List.take_succ_cons,
            List.take_succ_eq_append_getElem (show len.toNat < rest.length by omega)]
          rfl
        rw [hsplit]
        exact .full (Nat.not_lt.mp hlen) (by simp; omega)
      · cases h
  · cases h

/-! ### The tests on a complete frame (R176) -/

theorem frameRefusal_short {code len : Byte} (h : 40 < len.toNat) :
    frameRefusal [code, len] = some .badLength := by
  simp [frameRefusal, Config.maxPayload, h]

theorem framePayload_full (code len crc : Byte) (payload : List Byte) :
    framePayload (code :: len :: payload ++ [crc]) = payload := by
  simp [framePayload]

/-- Tests 2 and 3 on a frame that passes test 1. -/
theorem frameRefusal_full {code len crc : Byte} {payload : List Byte} (h : len.toNat ≤ 40) :
    frameRefusal (code :: len :: payload ++ [crc]) =
      if crc8 (code :: len :: payload) ≠ crc then some .badCrc
      else if (commandOf code payload).isNone then some .badCommand else none := by
  have hbody : (code :: len :: payload ++ [crc]).dropLast = code :: len :: payload :=
    List.dropLast_concat
  have hlast : (code :: len :: payload ++ [crc]).getLastD 0 = crc := List.getLastD_concat ..
  simp only [frameRefusal, hbody, hlast, framePayload_full]
  simp [Config.maxPayload, Nat.not_lt.mpr h]

/-! ### Codes and commands (R183) -/

theorem commandOf_codeAndPayload {i : Instr} {code : Byte} {payload : List Byte}
    (h : codeAndPayload i = some (code, payload)) : commandOf code payload = some i := by
  cases i <;> cases h <;> rfl

theorem codeAndPayload_commandOf {i : Instr} {code : Byte} {payload : List Byte}
    (h : commandOf code payload = some i) : codeAndPayload i = some (code, payload) := by
  have hcode (n : Nat) (hn : code.toNat = n) : code = BitVec.ofNat 8 n := by
    rw [← hn, BitVec.ofNat_toNat, BitVec.setWidth_eq]
  unfold commandOf at h
  split at h
  case h_18 => cases h
  all_goals
    rename_i hn
    cases h
    rw [hcode _ hn]
    rfl

theorem commandOf_undefined {code : Byte} {payload : List Byte}
    (h : code.toNat ∉ [0x01, 0x02, 0x10, 0x11, 0x12, 0x13, 0x20, 0x21, 0x22, 0x23, 0x30, 0x31, 0x32,
      0x40, 0x41, 0x42, 0x7F]) : commandOf code payload = none := by
  unfold commandOf
  split
  case h_18 => rfl
  all_goals
    rename_i hn
    simp [hn] at h

/-! ### Decoding and encoding -/

theorem decodeRequest_framed {frame : List Byte} (h : Framed frame) (after : List Byte) :
    decodeRequest (frame ++ after) =
      if (frameRefusal frame).isSome then some (.badCommand frame)
      else commandOf (frame.getD 0 0) (framePayload frame) := by
  simp [decodeRequest, frameOf_framed h after]

/-- The frame of a command: its code, its length, its payload and the CRC over these. -/
theorem encodeRequest_command {i : Instr} {code : Byte} {payload : List Byte}
    (h : codeAndPayload i = some (code, payload)) :
    encodeRequest i = some (code :: BitVec.ofNat 8 payload.length :: payload ++
      [crc8 (code :: BitVec.ofNat 8 payload.length :: payload)]) := by
  cases i <;> cases h <;> rfl

theorem wellFormed_command {i : Instr} {code : Byte} {payload : List Byte}
    (h : codeAndPayload i = some (code, payload)) :
    i.wellFormed = true ↔ payload.length ≤ 40 := by
  cases i <;> cases h <;> exact decide_eq_true_iff

/-- The commands with a frame: the refused frames, and the management commands. -/
theorem encodeRequest_cases {i : Instr} {frame : List Byte} (h : encodeRequest i = some frame) :
    i = .badCommand frame ∨ ∃ code payload, codeAndPayload i = some (code, payload) := by
  cases i <;> cases h
  case badCommand => exact .inl rfl
  all_goals exact .inr ⟨_, _, rfl⟩

theorem decodeRequest_command {i : Instr} {code : Byte} {payload : List Byte}
    (h : codeAndPayload i = some (code, payload)) (hfits : payload.length ≤ 40) (after : List Byte) :
    decodeRequest (code :: BitVec.ofNat 8 payload.length :: payload ++
      [crc8 (code :: BitVec.ofNat 8 payload.length :: payload)] ++ after) = some i := by
  have hlen : (BitVec.ofNat 8 payload.length).toNat = payload.length :=
    Nat.mod_eq_of_lt (by omega)
  have hframed := Framed.full (code := code) (crc := crc8 (code :: BitVec.ofNat 8 payload.length :: payload))
    (hlen.le.trans hfits) hlen.symm
  rw [decodeRequest_framed hframed, frameRefusal_full (hlen.le.trans hfits), framePayload_full]
  simp [commandOf_codeAndPayload h]

theorem isBadFrame_iff {frame : List Byte} :
    isBadFrame frame = true ↔ frameOf frame = some frame ∧ (frameRefusal frame).isSome = true := by
  simp [isBadFrame]

/-- Settles O14: a frame is one of two shapes; a refused one is its own command, and any other spells the
command whose code, length, payload and CRC it is. -/
theorem requestFramesAndCommandsAgree : Obligations.RequestFramesAndCommandsAgree := by
  refine ⟨fun i frame after hwell hencode => ?_, fun bytes frame i hframe hdecode => ?_⟩
  · rcases encodeRequest_cases hencode with rfl | ⟨code, payload, hcode⟩
    · obtain ⟨hself, hrefused⟩ := isBadFrame_iff.mp hwell
      rw [decodeRequest_framed (framed_of_frameOf hself), if_pos hrefused]
    · rw [encodeRequest_command hcode] at hencode
      cases hencode
      exact decodeRequest_command hcode ((wellFormed_command hcode).mp hwell) after
  · have hframed := framed_of_frameOf hframe
    simp only [decodeRequest, hframe] at hdecode
    split at hdecode
    · rename_i hrefused
      cases hdecode
      have hself : frameOf frame = some frame := by simpa using frameOf_framed hframed []
      exact ⟨isBadFrame_iff.mpr ⟨hself, hrefused⟩, rfl⟩
    · rename_i haccepted
      cases hframed with
      | short h => simp [frameRefusal_short h] at haccepted
      | @full code len payload crc h hlen =>
        rw [frameRefusal_full h] at haccepted
        rw [framePayload_full] at hdecode
        have hcode : codeAndPayload i = some (code, payload) := codeAndPayload_commandOf hdecode
        have hcrc : crc8 (code :: len :: payload) = crc := by
          by_contra hne
          simp [hne] at haccepted
        have hofLen : BitVec.ofNat 8 payload.length = len := by
          rw [hlen, BitVec.ofNat_toNat, BitVec.setWidth_eq]
        refine ⟨(wellFormed_command hcode).mpr (hlen.le.trans h), ?_⟩
        rw [encodeRequest_command hcode, hofLen, hcrc]

/-! ### Refusals that change nothing (R176, R183) -/

theorem exec_badLength {i : Instr} {row : RequestRow} {s : State} (hs : Listening s)
    (h : requestRow i = some row) (hlen : row.payload.length ≠ row.length) :
    exec i s = .next (respond .badLength [] s) := by
  obtain ⟨hlive, hphase⟩ := hs
  obtain ⟨body, -, hexec⟩ := exec_of_requestRow h s
  rw [hexec, takeRequest_length hlive hphase hlen]

/-- A channel byte above 0Fh is refused before every other check of the owning rule. -/
theorem takeRequest_badChannel {n : Nat} {a : Acceptance} {p : List Byte} {s : State} {f : Chan → State}
    (hs : Listening s) (hlen : p.length = n) (hmode : takenIn a s.ctl.mode = true)
    (hbyte : 16 ≤ (byteAt p 0).toNat) :
    takeRequest n a p s (withChannel p s f) = respond .badChannel [] s := by
  obtain ⟨hlive, hphase⟩ := hs
  rw [takeRequest_taken hlive hphase hlen hmode, withChannel_bad hbyte]

theorem exec_badCommand {s : State} {frame : List Byte} {status : Status} (hs : Listening s)
    (hframed : Framed frame) (hrefused : frameRefusal frame = some status) :
    exec (.badCommand frame) s = .next (respond status [] s) := by
  obtain ⟨hlive, hphase⟩ := hs
  have hframe : frameOf frame = some frame := by simpa using frameOf_framed hframed []
  change execBadCommand frame s = _
  simp only [execBadCommand, hframe, hrefused]
  rw [onEvent_taken hlive (by simp [hphase])]

/-- Settles O23: the length comes before the mode, the channel before the other checks of its rule, and a
frame is refused by the first test it fails. -/
theorem malformedRequestsChangeNothing : Obligations.MalformedRequestsChangeNothing := by
  refine ⟨?_, ?_, fun s code len rest hs => ⟨fun h => ?_, fun h hlen crc => ?_⟩⟩
  · intro s p hs refused
    refine ⟨fun h => ?_, fun h => ?_, fun h => ?_, fun h => exec_badLength hs rfl h,
      fun h => exec_badLength hs rfl h⟩
    · exact ⟨exec_badLength hs rfl h, exec_badLength hs rfl h, exec_badLength hs rfl h,
        exec_badLength hs rfl h, exec_badLength hs rfl h, exec_badLength hs rfl h, exec_badLength hs rfl h,
        exec_badLength hs rfl h⟩
    · exact ⟨exec_badLength hs rfl h, exec_badLength hs rfl h, exec_badLength hs rfl h,
        exec_badLength hs rfl h, exec_badLength hs rfl h⟩
    · exact ⟨exec_badLength hs rfl h, exec_badLength hs rfl h⟩
  · intro s b hs hb refused
    have hmode (a : Acceptance) (n : Nat) (p : List Byte) (f : Chan → State) (hp : (b :: p).length = n)
        (h : takenIn a s.ctl.mode = true) :
        Host.Outcome.next (φ := Fault) (ρ := Refusal) (takeRequest n a (b :: p) s (withChannel (b :: p) s f)) =
          refused :=
      congrArg _ (takeRequest_badChannel hs hp h hb)
    refine ⟨hmode .always 1 [] _ rfl rfl, fun h => ⟨?_, fun p hp => ?_⟩, fun h => ⟨?_, fun v => ?_⟩,
      fun h => ?_⟩
    · exact hmode .configOnly 1 [] _ rfl (by simp [takenIn, h])
    · exact hmode .configOnly 23 p _ (by simp [hp]) (by simp [takenIn, h])
    · exact hmode .runOnly 1 [] _ rfl (by simp [takenIn, h])
    · exact hmode .runOnly 2 [v] _ rfl (by simp [takenIn, h])
    · exact hmode .runOrSafe 1 [] _ rfl (by simp [takenIn, h])
  · exact exec_badCommand hs (.short h) (frameRefusal_short h)
  · refine ⟨fun hcrc => exec_badCommand hs (.full h hlen) ?_,
      fun hcrc hcode => exec_badCommand hs (.full h hlen) ?_⟩
    · rw [frameRefusal_full h, if_pos (Ne.symm hcrc)]
    · rw [frameRefusal_full h, if_neg (not_not.mpr hcrc.symm), commandOf_undefined hcode]
      rfl

end Sys2Proof.Machine
end

section
/-! The 22 descriptor bytes: their layout (R189) and the checks on them (R6, R7), which O15 is about. -/

namespace Sys2Proof.Machine

/-! ### The layout (R189) -/

/-- Behind the first 18 bytes stands the feedback part, whatever the kind. -/
theorem byteAt_descriptorBytes_feedback (d : Descriptor) (i : Nat) :
    byteAt (descriptorBytes d) (i + 18) = byteAt (feedbackBytes d.feedback) i := by
  rcases d with ⟨_, _ | _, _⟩
  · rfl
  · rfl

theorem length_descriptorBytes (d : Descriptor) : (descriptorBytes d).length = 22 := by
  rcases d with ⟨_, _ | _, _, _, _, _, _, _, _ | _⟩
  · rfl
  · rfl
  · rfl
  · rfl

theorem descriptorBytes_common (d : Descriptor) :
    addrAt (descriptorBytes d) 0 = d.target ∧ byteAt (descriptorBytes d) 4 = d.safe ∧
    byteAt (descriptorBytes d) 5 = d.rest ∧ halfAt (descriptorBytes d) 6 = d.gap :=
  ⟨addrAt_addrBytes d.target [], rfl, rfl, halfBytes_append d.gap⟩

theorem descriptorBytes_kind (d : Descriptor) :
    (byteAt (descriptorBytes d) 3).toNat =
      (match d.kind with
        | .hold _ => 0
        | .train _ => 1) := by
  rcases d with ⟨_, _ | _, _⟩
  · rfl
  · rfl

theorem descriptorBytes_group (d : Descriptor) :
    (byteAt (descriptorBytes d) 8).toNat =
      (match d.group with
        | none => 0
        | some g => g.val + 1) := by
  rcases d with ⟨_, _, _, _, _, _ | g, _⟩
  · rfl
  · exact Nat.mod_eq_of_lt (by omega)

theorem descriptorBytes_policy (d : Descriptor) :
    (byteAt (descriptorBytes d) 9).toNat =
      (match d.policy with
        | .stall => 0
        | .discard => 1) := by
  rcases d with ⟨_, _, _, _, _, _, _ | _, _⟩
  · rfl
  · rfl

theorem descriptorBytes_view (d : Descriptor) :
    (byteAt (descriptorBytes d) 10).toNat =
      (match d.view with
        | .driven => 0
        | .commanded => 1) := by
  rcases d with ⟨_, _, _, _, _, _, _, _ | _, _⟩
  · rfl
  · rfl

theorem descriptorBytes_hold {d : Descriptor} {p : HoldPart} (h : d.kind = .hold p) :
    halfAt (descriptorBytes d) 11 = p.minHold ∧ halfAt (descriptorBytes d) 13 = p.maxHold ∧
    byteAt (descriptorBytes d) 15 = 0 ∧ byteAt (descriptorBytes d) 16 = 0 ∧
    byteAt (descriptorBytes d) 17 = 0 := by
  cases d
  cases h
  exact ⟨halfBytes_append _, halfBytes_append _, rfl, rfl, rfl⟩

theorem descriptorBytes_train {d : Descriptor} {p : TrainPart} (h : d.kind = .train p) :
    byteAt (descriptorBytes d) 11 = p.markValue ∧ halfAt (descriptorBytes d) 12 = p.markTime ∧
    halfAt (descriptorBytes d) 14 = p.spaceTime ∧ halfAt (descriptorBytes d) 16 = p.pauseUnit := by
  cases d
  cases h
  exact ⟨rfl, halfBytes_append _, halfBytes_append _, halfBytes_append _⟩

theorem descriptorBytes_no_feedback {d : Descriptor} (h : d.feedback = none) :
    byteAt (descriptorBytes d) 18 = 0 ∧ byteAt (descriptorBytes d) 19 = 0 ∧
    byteAt (descriptorBytes d) 20 = 0 ∧ byteAt (descriptorBytes d) 21 = 0 := by
  have hbytes := byteAt_descriptorBytes_feedback d
  rw [h] at hbytes
  exact ⟨hbytes 0, hbytes 1, hbytes 2, hbytes 3⟩

theorem descriptorBytes_feedback {d : Descriptor} {f : FeedbackPart} (h : d.feedback = some f) :
    byteAt (descriptorBytes d) 18 = 1 ∧ (byteAt (descriptorBytes d) 19).toNat = f.senseBit.val ∧
    (byteAt (descriptorBytes d) 20).toNat = (if f.invert then 1 else 0) ∧
    byteAt (descriptorBytes d) 21 = f.settleTime := by
  have hbytes := byteAt_descriptorBytes_feedback d
  rw [h] at hbytes
  refine ⟨hbytes 0, ?_, ?_, hbytes 3⟩
  · rw [show byteAt (descriptorBytes d) 19 = natByte f.senseBit.val from hbytes 1]
    exact Nat.mod_eq_of_lt (by omega)
  · rw [show byteAt (descriptorBytes d) 20 = bitByte f.invert 0 from hbytes 2]
    cases f.invert <;> rfl

/-! ### Reading the bytes back -/

theorem byte_eq_of_toNat {b : Byte} {n : Nat} (h : b.toNat = n) : b = BitVec.ofNat 8 n := by
  rw [← h, BitVec.ofNat_toNat, BitVec.setWidth_eq]

theorem groupOfByte_group {b : Byte} {g : Option Group}
    (h : b.toNat = match g with
      | none => 0
      | some g => g.val + 1) : groupOfByte b = g := by
  cases g with
  | none => simp [groupOfByte, h]
  | some g =>
    have hrange : 1 ≤ g.val + 1 ∧ g.val + 1 ≤ 4 := by omega
    simp [groupOfByte, h, hrange]

theorem kind_descriptorOf (d : Descriptor) : (descriptorOf (descriptorBytes d)).kind = d.kind := by
  have hcode := descriptorBytes_kind d
  cases hk : d.kind with
  | hold p =>
    obtain ⟨hmin, hmax, -⟩ := descriptorBytes_hold hk
    rw [hk] at hcode
    simp [descriptorOf, byte_eq_of_toNat hcode, hmin, hmax]
  | train p =>
    obtain ⟨hvalue, hmark, hspace, hpause⟩ := descriptorBytes_train hk
    rw [hk] at hcode
    simp [descriptorOf, byte_eq_of_toNat hcode, hvalue, hmark, hspace, hpause]

theorem feedback_descriptorOf (d : Descriptor) :
    (descriptorOf (descriptorBytes d)).feedback = d.feedback := by
  cases hf : d.feedback with
  | none =>
    obtain ⟨hpresent, -⟩ := descriptorBytes_no_feedback hf
    simp [descriptorOf, hpresent]
  | some f =>
    obtain ⟨hpresent, hbit, hinvert, hsettle⟩ := descriptorBytes_feedback hf
    rcases f with ⟨bit, invert, settle⟩
    have hsense : (⟨(byteAt (descriptorBytes d) 19).toNat % 8, Nat.mod_lt _ (by decide)⟩ : Fin 8) = bit :=
      Fin.ext (by simp [hbit, Nat.mod_eq_of_lt bit.isLt])
    cases invert <;> simpa [descriptorOf, hpresent, byte_eq_of_toNat hinvert, hsettle] using hsense

theorem descriptorOf_descriptorBytes (d : Descriptor) : descriptorOf (descriptorBytes d) = d := by
  obtain ⟨htarget, hsafe, hrest, hgap⟩ := descriptorBytes_common d
  have hpolicy : (descriptorOf (descriptorBytes d)).policy = d.policy := by
    have hcode := descriptorBytes_policy d
    cases hp : d.policy <;> rw [hp] at hcode <;> simp [descriptorOf, byte_eq_of_toNat hcode]
  have hview : (descriptorOf (descriptorBytes d)).view = d.view := by
    have hcode := descriptorBytes_view d
    cases hp : d.view <;> rw [hp] at hcode <;> simp [descriptorOf, byte_eq_of_toNat hcode]
  have hgroup := groupOfByte_group (descriptorBytes_group d)
  have hkind := kind_descriptorOf d
  have hfeedback := feedback_descriptorOf d
  cases d
  simp only [Descriptor.mk.injEq, descriptorOf] at *
  exact ⟨htarget, hkind, hsafe, hrest, hgap, hgroup, hpolicy, hview, hfeedback⟩

/-! ### The checks (R6, R7) -/

/-- In a list of checks in ascending index, the first that fails has the lowest index that fails. -/
theorem find?_ascending {l : List (Nat × Bool)} (hl : l.Pairwise (·.1 < ·.1)) :
    ((l.find? (·.2)).map (·.1) = none ↔ ∀ n, (n, true) ∉ l) ∧
    ∀ n, (l.find? (·.2)).map (·.1) = some n ↔ (n, true) ∈ l ∧ ∀ m, m < n → (m, true) ∉ l := by
  induction l with
  | nil => simp
  | cons x l ih =>
    rcases x with ⟨k, fails⟩
    obtain ⟨hfirst, hrest⟩ := List.pairwise_cons.mp hl
    cases fails with
    | false => simpa using ih hrest
    | true =>
      refine ⟨iff_of_false (by simp) fun h => h k (by simp), fun n => ?_⟩
      simp only [List.find?_cons, Option.map_some, Option.some.injEq, List.mem_cons, Prod.mk.injEq,
        and_true]
      constructor
      · rintro rfl
        exact ⟨.inl rfl, fun m hm hmem => hmem.elim (by omega) fun h => absurd (hfirst _ h) (by simp; omega)⟩
      · rintro ⟨rfl | hmem, hlow⟩
        · rfl
        · exact absurd (Or.inl rfl) (hlow k (hfirst _ hmem))

theorem descriptorChecks_hold {r : List Byte} (h : byteAt r 3 = 0x00) :
    descriptorChecks r = commonFailures r ++ holdFailures r ++ feedbackFailures r := by
  simp [descriptorChecks, h]

theorem descriptorChecks_train {r : List Byte} (h : byteAt r 3 = 0x01) :
    descriptorChecks r =
      [(5, trainGapFailure r)] ++ commonFailures r ++ trainFailures r ++ feedbackFailures r := by
  simp [descriptorChecks, h]

theorem descriptorChecks_undefined {r : List Byte} (h0 : byteAt r 3 ≠ 0x00) (h1 : byteAt r 3 ≠ 0x01) :
    descriptorChecks r = [(2, true)] := by
  unfold descriptorChecks
  split
  · exact absurd (byte_eq_of_toNat ‹_›) h0
  · exact absurd (byte_eq_of_toNat ‹_›) h1
  · rfl

theorem descriptorChecks_ascending (r : List Byte) : (descriptorChecks r).Pairwise (·.1 < ·.1) := by
  unfold descriptorChecks
  split <;> simp [commonFailures, holdFailures, trainFailures, feedbackFailures]

theorem descriptorFailure_eq_none_iff {r : List Byte} :
    descriptorFailure r = none ↔ ∀ n, (n, true) ∉ descriptorChecks r :=
  (find?_ascending (descriptorChecks_ascending r)).1

theorem descriptorFailure_eq_some_iff {r : List Byte} {n : Nat} :
    descriptorFailure r = some n ↔
      (n, true) ∈ descriptorChecks r ∧ ∀ m, m < n → (m, true) ∉ descriptorChecks r :=
  (find?_ascending (descriptorChecks_ascending r)).2 n

theorem inRange_iff {lo hi : Nat} {t : Half} : inRange lo hi t = true ↔ lo ≤ t.toNat ∧ t.toNat ≤ hi := by
  simp [inRange]

theorem mem_commonFailures {r : List Byte} {n : Nat} :
    (n, true) ∈ commonFailures r ↔
      (n = 6 ∧ 4 < (byteAt r 8).toNat) ∨ (n = 7 ∧ 1 < (byteAt r 9).toNat) ∨
        (n = 8 ∧ 1 < (byteAt r 10).toNat) := by
  simp [commonFailures]

theorem mem_feedbackFailures {r : List Byte} {n : Nat} :
    (n, true) ∈ feedbackFailures r ↔
      (n = 15 ∧ 1 < (byteAt r 18).toNat) ∨
      (byteAt r 18 = 0x01 ∧ ((n = 16 ∧ 7 < (byteAt r 19).toNat) ∨ (n = 17 ∧ 1 < (byteAt r 20).toNat) ∨
        (n = 18 ∧ byteAt r 21 = 0))) := by
  simp only [feedbackFailures, List.mem_cons, Prod.mk.injEq, List.not_mem_nil, or_false,
    eq_comm (a := true), Bool.and_eq_true, beq_iff_eq, decide_eq_true_eq]
  grind

theorem mem_holdFailures {r : List Byte} {n : Nat} :
    (n, true) ∈ holdFailures r ↔
      n = 10 ∧ halfAt r 13 ≠ 0 ∧ (halfAt r 13).toNat < (halfAt r 11).toNat := by
  simp [holdFailures]

theorem trainGapFailure_iff {r : List Byte} :
    trainGapFailure r = true ↔
      halfAt r 6 = 0 ∨ (¬ ((halfAt r 14).toNat < 1 ∨ 1000 < (halfAt r 14).toNat) ∧
        (halfAt r 6).toNat < (halfAt r 14).toNat) := by
  simp only [trainGapFailure, Bool.or_eq_true, beq_iff_eq, Bool.and_eq_true, inRange_iff, decide_eq_true_eq,
    not_or, not_lt]

theorem not_inRange_iff {lo hi : Nat} {t : Half} :
    (!inRange lo hi t) = true ↔ t.toNat < lo ∨ hi < t.toNat := by
  rw [Bool.not_eq_true', ← Bool.not_eq_true, inRange_iff]
  omega

theorem mem_trainFailures {r : List Byte} {n : Nat} :
    (n, true) ∈ trainFailures r ↔
      (n = 11 ∧ byteAt r 11 = byteAt r 5) ∨
      (n = 12 ∧ ((halfAt r 12).toNat < 1 ∨ 1000 < (halfAt r 12).toNat)) ∨
      (n = 13 ∧ ((halfAt r 14).toNat < 1 ∨ 1000 < (halfAt r 14).toNat)) ∨
      (n = 14 ∧ ((halfAt r 16).toNat < 10 ∨ 1000 < (halfAt r 16).toNat)) := by
  simp only [trainFailures, List.mem_cons, Prod.mk.injEq, List.not_mem_nil, or_false,
    eq_comm (a := true), not_inRange_iff, beq_iff_eq]

/-- Which field index fails on which bytes, by the kind. -/
theorem mem_descriptorChecks {r : List Byte} {n : Nat} :
    (n, true) ∈ descriptorChecks r ↔
      (n = 2 ∧ byteAt r 3 ≠ 0x00 ∧ byteAt r 3 ≠ 0x01) ∨
      ((byteAt r 3 = 0x00 ∨ byteAt r 3 = 0x01) ∧
        ((n, true) ∈ commonFailures r ∨ (n, true) ∈ feedbackFailures r)) ∨
      (byteAt r 3 = 0x00 ∧ (n, true) ∈ holdFailures r) ∨
      (byteAt r 3 = 0x01 ∧ ((n = 5 ∧ trainGapFailure r = true) ∨ (n, true) ∈ trainFailures r)) := by
  by_cases h0 : byteAt r 3 = 0x00
  · simp [descriptorChecks_hold h0, h0]
    tauto
  · by_cases h1 : byteAt r 3 = 0x01
    · simp [descriptorChecks_train h1, h1]
      tauto
    · rw [descriptorChecks_undefined h0 h1]
      simp only [List.mem_singleton, Prod.mk.injEq, and_true, h0, h1, ne_eq, not_false_eq_true, and_true,
        or_self, false_and, or_false]

/-! ### Legal descriptors and bytes that pass every check -/

theorem descriptorOf_kind_hold {r : List Byte} (h : byteAt r 3 = 0x00) :
    (descriptorOf r).kind = .hold { minHold := halfAt r 11, maxHold := halfAt r 13 } :=
  if_pos h

theorem descriptorOf_kind_train {r : List Byte} (h : byteAt r 3 ≠ 0x00) :
    (descriptorOf r).kind =
      .train { markValue := byteAt r 11, markTime := halfAt r 12, spaceTime := halfAt r 14,
               pauseUnit := halfAt r 16 } :=
  if_neg h

theorem settleTime_eq {r : List Byte} {f : FeedbackPart} (h : (descriptorOf r).feedback = some f) :
    byteAt r 18 = 0x01 ∧ f.settleTime = byteAt r 21 := by
  simp only [descriptorOf] at h
  split at h
  · cases h
    exact ⟨‹_›, rfl⟩
  · cases h

theorem descriptorLegal_of_passes {r : List Byte} (h : descriptorFailure r = none) :
    DescriptorLegal (descriptorOf r) := by
  have hpass := descriptorFailure_eq_none_iff.mp h
  have hcode : byteAt r 3 = 0x00 ∨ byteAt r 3 = 0x01 := by
    by_contra hno
    obtain ⟨h0, h1⟩ := not_or.mp hno
    exact hpass 2 (mem_descriptorChecks.mpr (.inl ⟨rfl, h0, h1⟩))
  refine ⟨fun p hp => ?_, fun p hp => ?_, fun f hf hzero => ?_⟩
  · have h0 : byteAt r 3 = 0x00 := by
      by_contra hne
      simp [descriptorOf_kind_train hne, KindPart.holdPart] at hp
    have hfield : (10, true) ∉ holdFailures r := fun hmem =>
      hpass 10 (mem_descriptorChecks.mpr (.inr (.inr (.inl ⟨h0, hmem⟩))))
    rw [mem_holdFailures] at hfield
    simp only [descriptorOf_kind_hold h0, KindPart.holdPart, Option.some.injEq] at hp
    subst hp
    refine or_iff_not_imp_left.mpr fun hz => ?_
    exact Nat.not_lt.mp fun hlt => hfield ⟨rfl, hz, hlt⟩
  · have h1 : byteAt r 3 = 0x01 := by
      refine hcode.resolve_left fun h0 => ?_
      simp [descriptorOf_kind_hold h0, KindPart.trainPart] at hp
    have hfield (n : Nat) : ¬ ((n = 5 ∧ trainGapFailure r = true) ∨ (n, true) ∈ trainFailures r) :=
      fun hmem => hpass n (mem_descriptorChecks.mpr (.inr (.inr (.inr ⟨h1, hmem⟩))))
    have h5 := hfield 5
    have h11 := hfield 11
    have h12 := hfield 12
    have h13 := hfield 13
    have h14 := hfield 14
    simp [mem_trainFailures, trainGapFailure_iff] at h5 h11 h12 h13 h14
    have hnot : byteAt r 3 ≠ 0x00 := by rw [h1]; decide
    simp only [descriptorOf_kind_train hnot, KindPart.trainPart, Option.some.injEq] at hp
    subst hp
    have hgap : (descriptorOf r).gap = halfAt r 6 := rfl
    simp only [inRange_iff, hgap]
    exact ⟨h11, by omega, by omega, by omega, by omega⟩
  · obtain ⟨hpresent, hsettle⟩ := settleTime_eq hf
    refine hpass 18 (mem_descriptorChecks.mpr (.inr (.inl ⟨hcode, .inr (mem_feedbackFailures.mpr ?_)⟩)))
    exact .inr ⟨hpresent, .inr (.inr ⟨rfl, hsettle.symm.trans hzero⟩)⟩

theorem commonFailures_descriptorBytes (d : Descriptor) (n : Nat) :
    (n, true) ∉ commonFailures (descriptorBytes d) := by
  rw [mem_commonFailures, descriptorBytes_group, descriptorBytes_policy, descriptorBytes_view]
  have hgroup : (match d.group with
      | none => 0
      | some g => g.val + 1) ≤ 4 := by
    cases d.group with
    | none => exact Nat.zero_le 4
    | some g => exact g.isLt
  have hpolicy : (match d.policy with
      | .stall => 0
      | .discard => 1) ≤ 1 := by
    cases d.policy <;> decide
  have hview : (match d.view with
      | .driven => 0
      | .commanded => 1) ≤ 1 := by
    cases d.view <;> decide
  omega

theorem feedbackFailures_descriptorBytes {d : Descriptor} (h : DescriptorLegal d) (n : Nat) :
    (n, true) ∉ feedbackFailures (descriptorBytes d) := by
  obtain ⟨-, -, hlegal⟩ := h
  rw [mem_feedbackFailures]
  cases hf : d.feedback with
  | none =>
    obtain ⟨hpresent, -⟩ := descriptorBytes_no_feedback hf
    simp [hpresent]
  | some f =>
    obtain ⟨hpresent, hbit, hinvert, hsettle⟩ := descriptorBytes_feedback hf
    have hzero : ¬ byteAt (descriptorBytes d) 21 = 0 := by
      rw [hsettle]
      exact hlegal f hf
    have hinvert : (byteAt (descriptorBytes d) 20).toNat ≤ 1 := by rw [hinvert]; split <;> omega
    simp only [hpresent, hbit, hzero, and_false, or_false]
    have hone : (0x01 : Byte).toNat = 1 := rfl
    omega

theorem descriptorFailure_descriptorBytes {d : Descriptor} (h : DescriptorLegal d) :
    descriptorFailure (descriptorBytes d) = none := by
  obtain ⟨hhold, htrain, -⟩ := id h
  obtain ⟨-, -, hrest, hgap⟩ := descriptorBytes_common d
  have hcode := descriptorBytes_kind d
  refine descriptorFailure_eq_none_iff.mpr fun n hmem => ?_
  simp only [mem_descriptorChecks, commonFailures_descriptorBytes, feedbackFailures_descriptorBytes h,
    or_false, and_false, false_or] at hmem
  cases hk : d.kind with
  | hold p =>
    obtain ⟨hmin, hmax, -⟩ := descriptorBytes_hold hk
    rw [hk] at hcode
    have hlegal := hhold p (by rw [hk]; rfl)
    simp only [byte_eq_of_toNat hcode, mem_holdFailures, hmin, hmax] at hmem
    simp at hmem
    grind
  | train p =>
    obtain ⟨hvalue, hmark, hspace, hpause⟩ := descriptorBytes_train hk
    rw [hk] at hcode
    obtain ⟨hne, hmarkR, hspaceR, hpauseR, hle⟩ := htrain p (by rw [hk]; rfl)
    simp only [byte_eq_of_toNat hcode, trainGapFailure_iff, mem_trainFailures, hvalue, hmark, hspace, hpause,
      hrest, hgap] at hmem
    rw [inRange_iff] at hmarkR hspaceR hpauseR
    have hgap0 : d.gap ≠ 0 := by
      rintro hz
      rw [hz] at hle
      have : (0 : Half).toNat = 0 := rfl
      omega
    simp at hmem
    grind

/-- Settles O15: the layout read offset by offset, the round trip it gives, and the checks in ascending
index. -/
theorem descriptorBytesAndDescriptorsAgree : Obligations.DescriptorBytesAndDescriptorsAgree := by
  refine ⟨fun d hd => ⟨length_descriptorBytes d, descriptorFailure_descriptorBytes hd,
    descriptorOf_descriptorBytes d⟩, fun r => descriptorLegal_of_passes, ?_, ?_⟩
  · intro d r
    obtain ⟨htarget, hsafe, hrest, hgap⟩ := descriptorBytes_common d
    exact ⟨htarget, descriptorBytes_kind d, hsafe, hrest, hgap, descriptorBytes_group d,
      descriptorBytes_policy d, descriptorBytes_view d, fun p => descriptorBytes_hold,
      fun p => descriptorBytes_train, descriptorBytes_no_feedback, fun f => descriptorBytes_feedback⟩
  · intro r hold train present above outside fails
    have hfails (n : Nat) : (n, true) ∈ descriptorChecks r ↔ fails n := by
      rw [mem_descriptorChecks, mem_commonFailures, mem_feedbackFailures, mem_holdFailures,
        mem_trainFailures, trainGapFailure_iff]
      simp only [or_assoc]
      exact Iff.rfl
    refine ⟨?_, fun n => ?_⟩
    · simp only [descriptorFailure_eq_none_iff, hfails]
    · simp only [descriptorFailure_eq_some_iff, hfails]

end Sys2Proof.Machine
end

section
/-! The configuration commands: SET_DEVICE (R154), SET_CHANNEL with its hold-back (R6 to R12, R95, R179) and
CLEAR_CHANNEL (R13), which O25 to O28 are about. -/

namespace Sys2Proof.Machine

/-! ### Governed addresses (R1) -/

theorem governed_eq_none_iff {s : State} {a : Addr} :
    s.governed a = none ↔ ∀ k : Chan, (s.chan k).desc.map (·.target) ≠ some a := by
  simp only [State.governed, List.find?_eq_none, mem_allChans, true_implies]
  refine forall_congr' fun k => ?_
  cases (s.chan k).desc <;> simp

theorem governed_isSome_iff {s : State} {a : Addr} :
    (s.governed a).isSome = true ↔ ∃ c : Chan, (s.chan c).desc.map (·.target) = some a := by
  rw [Option.isSome_iff_ne_none, ne_eq, governed_eq_none_iff]
  simp

theorem targetConflicts_iff {c : Chan} {a : Addr} {s : State} :
    targetConflicts c a s = true ↔
      (∃ k : Chan, k ≠ c ∧ (s.chan k).desc.map (·.target) = some a) ∨ a = s.ctl.heartbeatAddress := by
  simp [targetConflicts, mem_allChans, Option.any_eq_true]

/-! ### SET_DEVICE -/

theorem exec_setDevice {s : State} {p : List Byte} (hs : Listening s) (hmode : s.ctl.mode = .config)
    (hlen : p.length = 6) :
    exec (.setDevice p) s = .next
      (match settingsFailure p with
        | some index => respondBadField index s
        | none =>
          if (s.governed (addrAt p 0)).isSome then respond .conflict [] s
          else respond .ok [] (storeSettings (addrAt p 0) (halfAt p 3) (byteAt p 5) s)) := by
  obtain ⟨hlive, hphase⟩ := hs
  change execSetDevice p s = _
  rw [execSetDevice, takeRequest_taken hlive hphase hlen (by simp [takenIn, hmode])] <;> rfl

theorem byte_eq_zero_iff {b : Byte} : b.toNat = 0 ↔ b = 0 :=
  ⟨byte_eq_of_toNat, fun h => by rw [h]; rfl⟩

theorem settingsFailure_eq (p : List Byte) :
    settingsFailure p =
      if (1 ≤ (halfAt p 3).toNat ∧ (halfAt p 3).toNat ≤ 9) ∨ 60000 < (halfAt p 3).toNat then some 2
      else if byteAt p 5 = 0 ∨ 250 < (byteAt p 5).toNat then some 3 else none := by
  simp only [settingsFailure, Config.heartbeatMin, Config.heartbeatMax, Config.stallLimitMax,
    byte_eq_zero_iff]
  congr 1
  exact propext (by omega)

/-- Settles O25: the first failing setting in ascending index, then the address, else all three stored. -/
theorem setDeviceStoresOrRefuses : Obligations.SetDeviceStoresOrRefuses := by
  intro s p hs hmode hlen
  rw [exec_setDevice hs hmode hlen, settingsFailure_eq]
  by_cases htimeout :
      (1 ≤ (halfAt p 3).toNat ∧ (halfAt p 3).toNat ≤ 9) ∨ 60000 < (halfAt p 3).toNat
  · rw [if_pos htimeout, if_pos htimeout]
    rfl
  rw [if_neg htimeout, if_neg htimeout]
  by_cases hlimit : byteAt p 5 = 0 ∨ 250 < (byteAt p 5).toNat
  · rw [if_pos hlimit, if_pos hlimit]
    rfl
  rw [if_neg hlimit, if_neg hlimit]
  simp only [governed_isSome_iff]
  rfl

/-! ### The acceptance of a SET_CHANNEL (R10 to R12, R95) -/

theorem detach_eq (c : Chan) (s : State) : detach c s = { s with down := detachedBus c s.down } := by
  unfold detach detachedBus
  cases s.down.bus with
  | drive f =>
    by_cases hf : f.channel = c
    · simp only [if_pos hf]
    · simp only [if_neg hf]
  | idle => rfl
  | pass => rfl

theorem configured_eq (d : Descriptor) (x : Channel) : configured d x = acceptedChannel d x := by
  cases hf : d.feedback <;> simp [configured, acceptedChannel, Channel.empty, Comparison.unknown, hf]

theorem acceptSetChannel_eq (c : Chan) (d : Descriptor) (s : State) :
    acceptSetChannel c d s =
      { s.setChan c (acceptedChannel d (s.chan c)) with
        down := detachedBus c s.down
        mgmt := { s.mgmt with pendingSet := none } } := by
  rw [← configured_eq]
  simp only [acceptSetChannel, detach_eq]
  rfl

theorem passInProgressTo_iff {a : Addr} {s : State} :
    passInProgressTo a s = true ↔
      ∃ k, s.port.cycle = some k ∧ (s.port.state = .passWait ∨ s.port.state = .passOn) ∧ k.address = a := by
  simp only [passInProgressTo, Bool.and_eq_true, Bool.or_eq_true, beq_iff_eq, Option.any_eq_true]
  exact ⟨fun ⟨hstate, k, hcycle, haddress⟩ => ⟨k, hcycle, hstate, haddress⟩,
    fun ⟨k, hcycle, hstate, haddress⟩ => ⟨hstate, k, hcycle, haddress⟩⟩

theorem passInProgressTo_eq_false {a : Addr} {s : State}
    (h : ∀ k, s.port.cycle = some k → s.port.state = .passWait ∨ s.port.state = .passOn → k.address ≠ a) :
    passInProgressTo a s = false := by
  rw [← Bool.not_eq_true, passInProgressTo_iff]
  rintro ⟨k, hcycle, hstate, haddress⟩
  exact h k hcycle hstate haddress

/-! ### SET_CHANNEL -/

theorem exec_setChannel {s : State} {p : List Byte} {c : Chan} (hs : Listening s)
    (hmode : s.ctl.mode = .config) (hlen : p.length = 23) (hc : (byteAt p 0).toNat = c.val) :
    exec (.setChannel p) s = .next
      (match descriptorFailure (p.drop 1) with
        | some index => respondBadField index s
        | none =>
          if targetConflicts c (descriptorOf (p.drop 1)).target s then respond .conflict [] s
          else takeSetChannel c (descriptorOf (p.drop 1)) s) := by
  obtain ⟨hlive, hphase⟩ := hs
  change execSetChannel p s = _
  rw [execSetChannel, takeRequest_taken hlive hphase hlen (by simp [takenIn, hmode]), withChannel_good hc] <;> rfl

/-- Settles O26: the fields, then the conflict, then the acceptance or its hold-back behind the cycle. -/
theorem setChannelIsRefusedAcceptedOrHeldBack : Obligations.SetChannelIsRefusedAcceptedOrHeldBack := by
  refine ⟨fun s p c hs hmode hlen hc => ⟨fun n hn => ?_, fun hok hconflict => ?_⟩,
    fun s p c d hs hmode hlen hc hok hd hdistinct hheartbeat => ⟨fun hfree => ?_, fun hbusy => ?_⟩⟩
  · simp only [exec_setChannel hs hmode hlen hc, hn]
    rfl
  · simp only [exec_setChannel hs hmode hlen hc, hok, targetConflicts_iff.mpr hconflict, if_true]
  all_goals
    have hno : targetConflicts c d.target s = false := by
      rw [← Bool.not_eq_true, targetConflicts_iff]
      rintro (⟨k, hk, htarget⟩ | htarget)
      · exact hdistinct k hk htarget
      · exact hheartbeat htarget
    simp only [exec_setChannel hs hmode hlen hc, hok, hd, hno, Bool.false_eq_true, if_false, takeSetChannel]
  · simp only [passInProgressTo_eq_false hfree, Bool.false_eq_true, if_false, acceptSetChannel_eq]
  · simp only [passInProgressTo_iff.mpr hbusy, if_true]

/-! ### HELD_SET_CHANNEL_ACCEPT -/

theorem acceptHeld_free {s : State} {q : PendingSet} (hq : s.mgmt.pendingSet = some q)
    (hfree : passInProgressTo q.descriptor.target s = false) :
    acceptHeld s =
      { s.setChan q.channel (acceptedChannel q.descriptor (s.chan q.channel)) with
        down := detachedBus q.channel s.down
        mgmt :=
          if s.mgmt.phase = .pending then
            { s.mgmt with
              pendingSet := none, phase := .pending
              response := some { status := .ok, payload := [] } }
          else { s.mgmt with pendingSet := none } } := by
  simp only [acceptHeld, hq, hfree, Bool.false_eq_true, if_false, acceptSetChannel_eq]
  by_cases hphase : s.mgmt.phase = .pending
  · simp only [hphase, if_true]
    rfl
  · simp only [hphase, if_false]

theorem exec_heldSetChannelAccept_free {s : State} {q : PendingSet} (hlive : s.live = true)
    (hq : s.mgmt.pendingSet = some q) (hfree : passInProgressTo q.descriptor.target s = false) :
    exec .heldSetChannelAccept s = .next (arbitrate (acceptHeld s)) := by
  change execHeldSetChannelAccept s = _
  rw [execHeldSetChannelAccept, onEvent_taken hlive (by simp [hq, hfree])]

theorem exec_heldSetChannelAccept_busy {s : State} {q : PendingSet} (hq : s.mgmt.pendingSet = some q)
    (hbusy : passInProgressTo q.descriptor.target s = true) : exec .heldSetChannelAccept s = .next s := by
  change execHeldSetChannelAccept s = _
  simp [execHeldSetChannelAccept, State.onEvent, hq, hbusy]

/-- Settles O27: whether the cycle to the new address is in progress decides between waiting and the
acceptance. -/
theorem heldBackSetChannelIsAccepted : Obligations.HeldBackSetChannelIsAccepted := by
  refine fun s q hlive hq => ⟨fun hbusy => ?_, fun hfree => ?_⟩
  · exact exec_heldSetChannelAccept_busy hq (passInProgressTo_iff.mpr hbusy)
  · have hnone := passInProgressTo_eq_false hfree
    rw [exec_heldSetChannelAccept_free hlive hq hnone, acceptHeld_free hq hnone]

/-! ### CLEAR_CHANNEL -/

theorem toNat_byteAt_chan (c : Chan) (rest : List Byte) :
    (byteAt (BitVec.ofNat 8 c.val :: rest) 0).toNat = c.val :=
  Nat.mod_eq_of_lt (by omega)

/-- Settles O28: the slot is emptied but for its last fault and mark, and the drive in flight detached. -/
theorem clearChannelEmptiesTheSlot : Obligations.ClearChannelEmptiesTheSlot := by
  rintro s c ⟨hlive, hphase⟩ hmode
  have hexec : exec (.clearChannel [BitVec.ofNat 8 c.val]) s = .next
      (match (s.chan c).desc with
        | none => respond .notConfigured [] s
        | some _ =>
          respond .ok [] <| modChan c (fun x =>
            { Channel.empty with lastFault := x.lastFault, transitionMark := x.transitionMark })
            (detach c s)) := by
    change execClearChannel _ s = _
    rw [execClearChannel, takeRequest_taken hlive hphase List.length_singleton (by simp [takenIn, hmode]),
      withChannel_good (toNat_byteAt_chan c [])] <;> rfl
  refine ⟨fun hnone => by simp only [hexec, hnone], fun hsome => ?_⟩
  obtain ⟨d, hd⟩ := Option.isSome_iff_exists.mp hsome
  simp only [hexec, hd, detach_eq]
  rfl

end Sys2Proof.Machine
end

section
/-! The transaction on the management port (R173, R177, R178, R180, R186), which O36 and O37 are about. -/

namespace Sys2Proof.Machine

theorem heldInReset_iff {s : State} :
    s.heldInReset = true ↔ s.pins.resetLow = true ∨ s.pins.supplyOk = false := by
  simp [State.heldInReset]

/-! ### Open and close (R173, R178) -/

theorem openTransaction_eq (s : State) :
    openTransaction s =
      { s with mgmt := { s.mgmt with
        phase :=
          if s.mgmt.pendingSet ≠ none ∨ s.pins.resetLow = true ∨ s.pins.supplyOk = false then .discarding
          else .request
        response := none } } := by
  simp only [openTransaction, Bool.or_eq_true, heldInReset_iff, Option.isSome_iff_ne_none]

theorem exec_transactionOpen {s : State} (hclk : s.pins.clkRunning = true) (hhigh : s.pins.mcsLow = false) :
    exec .transactionOpen s = .next (openTransaction (setSelect true s)) := by
  change execTransactionOpen s = _
  simp [execTransactionOpen, hclk, hhigh]

theorem exec_transactionClose {s : State} (hclk : s.pins.clkRunning = true) (hlow : s.pins.mcsLow = true) :
    exec .transactionClose s = .next (closeTransaction (setSelect false s)) := by
  change execTransactionClose s = _
  simp [execTransactionClose, hclk, hlow]

theorem closeTransaction_unarmed {s : State} (h : s.mgmt.resetArmed = false) :
    closeTransaction s = { s with mgmt := { s.mgmt with phase := .closed, response := none } } := by
  simp [closeTransaction, h]

theorem closeTransaction_armed {s : State} (h : s.mgmt.resetArmed = true) :
    closeTransaction s = resetPart s := by
  simp [closeTransaction, h]

/-- Settles O36: the pin falls or rises with CLK running and the port takes it at once; RESET_DEVICE arms. -/
theorem transactionOpensAndCloses : Obligations.TransactionOpensAndCloses := by
  refine ⟨fun s hclk => ⟨fun hhigh => ?_, fun hlow harmed => ?_⟩, ?_⟩
  · rw [exec_transactionOpen hclk hhigh, openTransaction_eq]
    rfl
  · rw [exec_transactionClose hclk hlow, closeTransaction_unarmed (by exact harmed)]
    rfl
  · rintro s ⟨hlive, hphase⟩
    change execResetDevice [] s = _
    rw [execResetDevice, takeRequest_taken hlive hphase List.length_nil rfl]
    rfl

/-! ### The response on MSO (R177) -/

theorem mso_fill {s : State}
    (h : s.mgmt.phase = .request ∨ s.mgmt.phase = .pending ∨ s.mgmt.phase = .spent ∨
      s.mgmt.phase = .discarding) : s.mso = [0xFF] := by
  rcases h with h | h | h | h <;> simp [State.mso, h]

theorem mso_response {s : State} {r : Response} (hphase : s.mgmt.phase = .response)
    (hr : s.mgmt.response = some r) : s.mso = responseFrame r := by
  simp [State.mso, hphase, hr]

theorem statusCode_toNat (status : Status) :
    (statusCode status).toNat =
      (match status with
        | .ok => 0x00
        | .accepted => 0x01
        | .badCrc => 0x10
        | .badCommand => 0x11
        | .badLength => 0x12
        | .wrongMode => 0x20
        | .busy => 0x21
        | .badField => 0x30
        | .badChannel => 0x31
        | .notConfigured => 0x32
        | .notFaulted => 0x33
        | .safeLine => 0x34
        | .conflict => 0x35
        | .full => 0x36
        | .blocked => 0x37) := by
  cases status <;> rfl

theorem exec_syncByteSent {s : State} {r : Response} (hlive : s.live = true)
    (hphase : s.mgmt.phase = .pending) (hr : s.mgmt.response = some r) :
    exec .syncByteSent s = .next { s with mgmt := { s.mgmt with phase := .response } } := by
  change execSyncByteSent s = _
  rw [execSyncByteSent, onEvent_taken hlive (by simp [hphase, hr])]

theorem exec_responseCrcSent {s : State} (hlive : s.live = true) (hphase : s.mgmt.phase = .response) :
    exec .responseCrcSent s = .next { s with mgmt := { s.mgmt with phase := .spent } } := by
  change execResponseCrcSent s = _
  rw [execResponseCrcSent, onEvent_taken hlive (by simp [hphase])]

/-- Settles O37: a response goes from PENDING by the sync byte to RESPONSE and by its CRC to SPENT, and MSO
carries its frame in between. -/
theorem responseFrameIsSent : Obligations.ResponseFrameIsSent := by
  refine ⟨fun _ _ _ => rfl, fun s r hlive hr => ⟨fun hphase => ⟨mso_fill (.inr (.inl hphase)), ?_⟩,
    fun hphase => ?_⟩⟩
  · exact ⟨_, statusCode r.status, exec_syncByteSent hlive hphase hr, rfl, mso_response rfl hr,
      statusCode_toNat r.status⟩
  · exact ⟨_, exec_responseCrcSent hlive hphase, rfl, mso_fill (.inr (.inr (.inl rfl)))⟩

end Sys2Proof.Machine
end

section
/-! The resets (R125, R157, R158, R172) and the clock that stops (R195), which O33 and O35 are about. -/

namespace Sys2Proof.Machine

/-! ### Reset -/

theorem afterReset_eq (p : HostPort) :
    p.afterReset =
      match p.cycle with
      | none => HostPort.idle
      | some k =>
        if p.released then HostPort.idle
        else
          { HostPort.idle with
            state := .ending
            cycle := some { k with
              ending := some .normal, answer := if k.kind = .read then some 0xFF else none } } := by
  unfold HostPort.afterReset
  cases p.cycle <;> rfl

theorem exec_resetAssert {s : State} (h : s.pins.resetLow = false) :
    exec .resetAssert s = .next (resetPart { s with pins := { s.pins with resetLow := true } }) := by
  change execResetAssert s = _
  simp [execResetAssert, h]

theorem exec_supplyFall {s : State} (h : s.pins.supplyOk = true) :
    exec .supplyFall s = .next (resetPart { s with pins := { s.pins with supplyOk := false } }) := by
  change execSupplyFall s = _
  simp [execSupplyFall, h]

/-- Settles O33: three causes, one reset of the part; only the pins differ. -/
theorem resetsSetEveryBlock : Obligations.ResetsSetEveryBlock := by
  intro s port after
  have hport : s.port.afterReset = port := afterReset_eq s.port
  refine ⟨fun h => ?_, fun h => ?_, fun hclk hlow harmed => ?_⟩
  · rw [exec_resetAssert h, resetPart]
    dsimp only
    rw [hport]
  · rw [exec_supplyFall h, resetPart]
    dsimp only
    rw [hport]
  · rw [exec_transactionClose hclk hlow, closeTransaction_armed (by exact harmed), resetPart, setSelect_port,
      hport]
    rfl

/-! ### What the host strobes show (R108, R195) -/

theorem strobesAsserted_iff {s : State} :
    s.strobesAsserted = true ↔
      (s.pins.strobes = none ∧ s.port.state ≠ .idle ∧ s.port.released = false) ∨
        ∃ h, s.pins.strobes = some (some h) := by
  rcases hm : s.pins.strobes with _ | _ | h
  · simp [State.strobesAsserted, State.portIdle, hm]
  · simp [State.strobesAsserted, hm]
  · simp [State.strobesAsserted, hm]

theorem onArrival_shown {s t : State} {b : Bool} {h : HostStrobes} (hclk : s.pins.clkRunning = false)
    (hb : b = true) (hfree : s.strobesAsserted = false) :
    s.onArrival b h t = { s with pins := { s.pins with strobes := some (some h) } } := by
  rw [onArrival_stopped hclk, hb, hfree]
  rfl

/-! ### A stopped part -/

/-- The levels of the inputs alone may differ. -/
def Frozen (s t : State) : Prop := ∃ p : Pins, t = { s with pins := p }

theorem Frozen.refl (s : State) : Frozen s s := ⟨s.pins, rfl⟩

theorem Frozen.outputs {s t : State} (h : Frozen s t) :
    t = { s with pins := t.pins } ∧ t.hwait = s.hwait ∧ t.herr = s.herr ∧ t.hd = s.hd ∧
      t.downCycle = s.downCycle ∧ t.mso = s.mso := by
  obtain ⟨p, rfl⟩ := h
  exact ⟨rfl, rfl, rfl, rfl, rfl, rfl⟩

theorem frozen_onEvent {s t : State} {b : Bool} (hdead : s.live = false) : Frozen s (s.onEvent b t) := by
  simpa [State.onEvent, hdead] using Frozen.refl s

theorem frozen_onArrival {s t : State} {b : Bool} {h : HostStrobes} (hclk : s.pins.clkRunning = false) :
    Frozen s (s.onArrival b h t) := by
  rw [onArrival_stopped hclk]
  split
  · exact ⟨_, rfl⟩
  · exact .refl s

theorem frozen_onHold {s : State} {c : Chan} {p : Channel → Bool} {body : Descriptor → State → State}
    (hdead : s.live = false) : Frozen s (onHold c p body s) := by
  unfold onHold
  split
  · exact .refl s
  · exact frozen_onEvent hdead

theorem frozen_onTrain {s : State} {c : Chan} {p : Channel → Bool}
    {body : Descriptor → TrainPart → State → State} (hdead : s.live = false) :
    Frozen s (onTrain c p body s) := by
  unfold onTrain
  split
  · exact .refl s
  · exact frozen_onEvent hdead

/-- The command changes the levels of the inputs alone. -/
def Freezes (s : State) (o : Host.Outcome State Fault Refusal) : Prop := ∃ t, o = .next t ∧ Frozen s t

theorem Freezes.next {s t : State} (h : Frozen s t) : Freezes s (.next t) := ⟨t, rfl, h⟩

theorem freezes_request {s : State} {i : Instr} {row : RequestRow} (hdead : s.live = false)
    (h : requestRow i = some row) : Freezes s (exec i s) := by
  obtain ⟨body, -, hexec⟩ := exec_of_requestRow h s
  rw [hexec]
  exact .next (frozen_onEvent hdead)

theorem freezes_badCommand {s : State} (frame : List Byte) (hdead : s.live = false) :
    Freezes s (execBadCommand frame s) := by
  refine .next ?_
  split
  · exact .refl s
  · split
    · exact .refl s
    · exact frozen_onEvent hdead

theorem freezes_governed {s : State} {a : Addr} {h : HostStrobes} {arrived : Chan → State}
    (hclk : s.pins.clkRunning = false) :
    Frozen s (match s.governed a with
      | none => s
      | some c => s.onArrival (!s.heldInReset) h (arrived c)) := by
  split
  · exact .refl s
  · exact frozen_onArrival hclk

/-- Every command but those of CLK, RESET# and the supply, with CLK stopped. -/
theorem exec_stopped {i : Instr} {s : State} (hclk : s.pins.clkRunning = false) (hrun : i ≠ .clkRunsAgain)
    (hassert : i ≠ .resetAssert) (hrelease : i ≠ .resetRelease) (hfall : i ≠ .supplyFall)
    (hrange : i ≠ .supplyWithinRange) : Freezes s (exec i s) := by
  have hdead : s.live = false := by simp [State.live, hclk]
  have hevent {b : Bool} {t : State} : Freezes s (.next (s.onEvent b t)) := .next (frozen_onEvent hdead)
  cases i with
  | getInfo | getStatus | setDevice | setChannel | clearChannel | getChannel | start | stop | enterSafe
  | resume | clearFault | purge | queueWrite | readEvents | readFlags | setEnables | resetDevice =>
    exact freezes_request hdead rfl
  | badCommand frame => exact freezes_badCommand frame hdead
  | transactionOpen | transactionClose =>
    refine .next ?_
    simp only [hclk, Bool.false_eq_true, if_false]
    split
    · exact .refl s
    · exact ⟨_, rfl⟩
  | governedRead | governedWrite => exact .next (freezes_governed hclk)
  | passThroughArrival | invalidCycle | hostCycleInReset => exact .next (frozen_onArrival hclk)
  | hostCycleEnd =>
    refine .next ?_
    simp only [hclk, Bool.false_eq_true, if_false]
    split
    · exact ⟨_, rfl⟩
    · exact .refl s
  | heldSetChannelAccept | passThroughIssue | driveIssue | grant | enteringRunComplete
  | enteringSafeComplete | enteringConfigComplete | timestampTick | syncByteSent | responseCrcSent
  | settleExpiry | filterExpiry | heartbeatExpiry =>
    exact hevent
  | passThroughCompletion | passTimeout | stallTimeout | stallReexamine =>
    refine .next ?_
    split
    · exact .refl s
    · exact frozen_onEvent hdead
  | driveCompletion | driveTimeout =>
    refine .next ?_
    split
    · exact frozen_onEvent hdead
    · exact .refl s
    · exact .refl s
  | holdHeadTake | minHoldExpiry | maxHoldExpiry | holdRecoveryEnd => exact .next (frozen_onHold hdead)
  | trainHeadTake | markExpiry | spaceExpiry | pauseExpiry | trainRecoveryEnd =>
    exact .next (frozen_onTrain hdead)
  | senseChange c high =>
    refine .next ?_
    simp only [hdead, Bool.false_and, Bool.false_eq_true, if_false]
    exact ⟨_, rfl⟩
  | safeLineFall =>
    refine .next ?_
    simp only [hdead, Bool.false_and, Bool.false_eq_true, if_false]
    exact ⟨_, rfl⟩
  | safeLineRise | clkStops => exact .next ⟨_, rfl⟩
  | clkRunsAgain => exact absurd rfl hrun
  | resetAssert => exact absurd rfl hassert
  | resetRelease => exact absurd rfl hrelease
  | supplyFall => exact absurd rfl hfall
  | supplyWithinRange => exact absurd rfl hrange

/-- The rows of an arrival each show their strobes while CLK is stopped. -/
theorem exec_arrival_stopped {s : State} (hclk : s.pins.clkRunning = false)
    (hfree : s.strobesAsserted = false) (a : Addr) (v : Byte) :
    let shows (h : HostStrobes) (i : Instr) : Prop :=
      exec i s = .next { s with pins := { s.pins with strobes := some (some h) } }
    (s.heldInReset = true → ∀ kind, shows (strobesOf kind a v) (.hostCycleInReset kind a v)) ∧
    (s.heldInReset = false →
      shows (.invalid a) (.invalidCycle a) ∧
      (∀ c, s.governed a = some c → shows (.read a) (.governedRead a) ∧ shows (.write a v) (.governedWrite a v)) ∧
      (s.governed a = none → ∀ data, shows (passStrobes a data) (.passThroughArrival a data))) := by
  intro shows
  have hshown {b : Bool} {t : State} (h : HostStrobes) (hb : b = true) :
      Host.Outcome.next (φ := Fault) (ρ := Refusal) (s.onArrival b h t) =
        .next { s with pins := { s.pins with strobes := some (some h) } } :=
    congrArg _ (onArrival_shown hclk hb hfree)
  refine ⟨fun hreset kind => hshown _ hreset, fun hreset => ⟨hshown _ (by simp [hreset]), fun c hc => ⟨?_, ?_⟩,
    fun hnone data => hshown _ (by simp [hreset, hnone])⟩⟩
  · change execGovernedRead a s = _
    simp only [execGovernedRead, hc]
    exact hshown _ (by simp [hreset])
  · change execGovernedWrite a v s = _
    simp only [execGovernedWrite, hc]
    exact hshown _ (by simp [hreset])

theorem exec_hostCycleEnd_stopped {s : State} (hclk : s.pins.clkRunning = false)
    (hasserted : s.strobesAsserted = true) : exec .hostCycleEnd s = .next (showStrobes none s) := by
  change execHostCycleEnd s = _
  simp [execHostCycleEnd, hclk, hasserted]

/-- Settles O35: with CLK stopped no event is taken, and an arrival or the end of a host cycle moves what the
strobes show. -/
theorem stoppedClockFreezesEveryBlock : Obligations.StoppedClockFreezesEveryBlock := by
  refine ⟨fun i s t hclk hrun hassert hrelease hfall hrange ht => ?_, ?_⟩
  · obtain ⟨u, hu, hfrozen⟩ := exec_stopped hclk hrun hassert hrelease hfall hrange
    rw [hu] at ht
    cases ht
    exact hfrozen.outputs
  · intro s hclk asserted shows
    refine ⟨fun h => ?_, fun h a v => ?_⟩
    · have hasserted : s.strobesAsserted = true := strobesAsserted_iff.mpr h
      exact exec_hostCycleEnd_stopped hclk hasserted
    · have hfree : s.strobesAsserted = false := Bool.eq_false_iff.mpr (mt strobesAsserted_iff.mp h)
      obtain ⟨hreset, hlive⟩ := exec_arrival_stopped hclk hfree a v
      refine ⟨fun hr => ⟨hreset hr .read, hreset hr .write, hreset hr .invalid⟩, fun hr => ?_⟩
      obtain ⟨hinvalid, hgoverned, hpass⟩ := hlive hr
      refine ⟨hinvalid, fun hne => ?_, fun hnone => ⟨hpass hnone none, hpass hnone (some v)⟩⟩
      obtain ⟨c, hc⟩ := Option.ne_none_iff_exists'.mp hne
      exact hgoverned c hc

end Sys2Proof.Machine
end

section
/-! The end of a reset and CLK running again: the inputs taken at the levels they show (R157, R195,
notes/assumptions/6.md), which O34 is about. -/

namespace Sys2Proof.Machine

/-! ### The comparison records that an operation leaves alone -/

/-- Every channel has the comparison record it had. -/
def SameComparisons (s t : State) : Prop := ∀ c, (t.chan c).cmp = (s.chan c).cmp

theorem SameComparisons.refl (s : State) : SameComparisons s s := fun _ => rfl

theorem SameComparisons.of_chan {s t : State} (h : ∀ c, t.chan c = s.chan c) : SameComparisons s t :=
  fun c => by rw [h c]

theorem SameComparisons.trans {s t u : State} (h : SameComparisons s t) (k : SameComparisons t u) :
    SameComparisons s u := fun c => (k c).trans (h c)

theorem sameComparisons_mapChans {f : Channel → Channel} (hf : ∀ x, (f x).cmp = x.cmp) (s : State) :
    SameComparisons s (mapChans f s) := fun c => by rw [mapChans_chan, hf]

theorem sameComparisons_modChan {f : Channel → Channel} (hf : ∀ x, (f x).cmp = x.cmp) (c : Chan) (s : State) :
    SameComparisons s (modChan c f s) := fun k => by
  rw [modChan_chan]
  split
  · rename_i h
    rw [h, hf]
  · rfl

theorem sameComparisons_arbitrate (s : State) : SameComparisons s (arbitrate s) := fun c => by
  rcases arbitrate_chan s c with h | ⟨h, -⟩ <;> rw [h]

theorem sameComparisons_answerHost (e : EndKind) (a : Option Byte) (s : State) :
    SameComparisons s (answerHost e a s) := by
  rw [answerHost_frame]
  exact .of_chan fun _ => rfl

theorem cmp_enterRun (x : Channel) : x.enterRun.cmp = x.cmp := by
  unfold Channel.enterRun
  split
  · split <;> rfl
  · rfl

theorem cmp_enterConfig (x : Channel) : x.enterConfig.cmp = x.cmp := by
  unfold Channel.enterConfig
  split
  · split <;> rfl
  · rfl

theorem cmp_leaveRun (x : Channel) : x.leaveRun.cmp = x.cmp := by
  unfold Channel.leaveRun
  split
  · split <;> rfl
  · rfl

theorem sameComparisons_transitionReport (s : State) : SameComparisons s (transitionReport s) := by
  rcases transitionReport_cases s with ⟨-, -, h⟩ | ⟨-, -, h⟩ | ⟨-, -, h⟩ | ⟨-, h⟩ <;> rw [h]
  · exact sameComparisons_mapChans cmp_enterRun (setMode .run s)
  · exact .of_chan fun _ => rfl
  · exact sameComparisons_mapChans cmp_enterConfig (setMode .config s)
  · exact .refl s

theorem sameComparisons_requestTransitionDrives (f : Descriptor → Byte) (s : State) :
    SameComparisons s (requestTransitionDrives f s) := fun c => by
  rw [requestTransitionDrives_chan]
  split
  · split <;> rfl
  · rfl

theorem sameComparisons_giveUpStall (f : Chan → Bool) (s : State) : SameComparisons s (giveUpStall f s) := by
  rcases giveUpStall_cases f s with h | ⟨h, -, -, -, heq⟩
  · rw [h]
    exact .refl s
  · rw [heq]
    exact sameComparisons_answerHost .normal none (recordChannel .blockedWrite h.channel h.data s)

theorem sameComparisons_clearRun (next : Mode) (s : State) : SameComparisons s (clearRun next s) := fun c => by
  rw [clearRun, sameComparisons_requestTransitionDrives _ _ c, setHeartbeat_chan, clearGroups_chan,
    mapChans_chan, cmp_leaveRun, setMode_chan]

theorem sameComparisons_actOnSafeLow (s : State) : SameComparisons s (actOnSafeLow s) := by
  unfold actOnSafeLow
  split
  · rw [leaveRunToSafe, leaveRun_eq]
    have hcause : SameComparisons s (setSafeCause .safeLine s) := fun _ => rfl
    have hstall := hcause.trans (sameComparisons_giveUpStall (fun _ => true) (setSafeCause .safeLine s))
    exact (hstall.trans (sameComparisons_clearRun .enteringSafe _)).trans (sameComparisons_transitionReport _)
  · refine SameComparisons.trans (fun c => ?_) (sameComparisons_transitionReport _)
    exact sameComparisons_requestTransitionDrives _ (setMode .enteringSafe (setSafeCause .safeLine s)) c
  all_goals exact .refl s

theorem transitionReport_mgmt_pins (s : State) :
    (transitionReport s).mgmt = s.mgmt ∧ (transitionReport s).pins = s.pins := by
  rcases transitionReport_cases s with ⟨-, -, h⟩ | ⟨-, -, h⟩ | ⟨-, -, h⟩ | ⟨-, h⟩ <;> rw [h]
  · exact ⟨by simp [completeRun], by simp [completeRun]⟩
  · exact ⟨rfl, rfl⟩
  · exact ⟨by simp [completeConfig], by simp [completeConfig]⟩
  · exact ⟨rfl, rfl⟩

theorem giveUpStall_mgmt_pins (f : Chan → Bool) (s : State) :
    (giveUpStall f s).mgmt = s.mgmt ∧ (giveUpStall f s).pins = s.pins := by
  rcases giveUpStall_cases f s with h | ⟨h, -, -, -, heq⟩
  · rw [h]
    exact ⟨rfl, rfl⟩
  · rw [heq, answerHost_frame]
    exact ⟨rfl, rfl⟩

/-- The fall of SAFE# touches neither the management port nor a pin. -/
theorem actOnSafeLow_mgmt_pins (s : State) :
    (actOnSafeLow s).mgmt = s.mgmt ∧ (actOnSafeLow s).pins = s.pins := by
  unfold actOnSafeLow
  split
  · obtain ⟨hmgmt, hpins⟩ := giveUpStall_mgmt_pins (fun _ => true) (setSafeCause .safeLine s)
    obtain ⟨hmgmt', hpins'⟩ := transitionReport_mgmt_pins
      (clearRun .enteringSafe (giveUpStall (fun _ => true) (setSafeCause .safeLine s)))
    rw [leaveRunToSafe, leaveRun_eq, hmgmt', hpins']
    exact ⟨by simp [clearRun, hmgmt], by simp [clearRun, hpins]⟩
  · obtain ⟨hmgmt, hpins⟩ := transitionReport_mgmt_pins
      (requestTransitionDrives (·.safe) (setMode .enteringSafe (setSafeCause .safeLine s)))
    exact ⟨by rw [hmgmt]; simp, by rw [hpins]; simp⟩
  all_goals exact ⟨rfl, rfl⟩

theorem cmp_abortEffect (gap : Half) (x : Channel) : (abortEffect gap x).cmp = x.cmp := by
  unfold abortEffect
  split <;> rfl

theorem sameComparisons_abortTrain (c : Chan) (d : Descriptor) (s : State) :
    SameComparisons s (abortTrain c d s) := by
  have hempty : SameComparisons s (emptyQueue c s) :=
    sameComparisons_modChan (f := fun x => { x with queue := [] }) (fun _ => rfl) c s
  have hleave (t : State) : SameComparisons t ((if (s.chan c).state = .waiting then withdraw c else id) t) := by
    split
    · unfold withdraw
      split
      · exact .refl t
      · exact .of_chan fun _ => rfl
    · exact .refl t
  exact (hempty.trans (hleave _)).trans (sameComparisons_modChan (cmp_abortEffect d.gap) c _)

theorem sameComparisons_examine (c : Chan) (d : Descriptor) (v : Byte) (o : Origin) (s : State) :
    SameComparisons s (examine c d v o s).2 := by
  rcases examine_cases c d v o s with ⟨-, h⟩ | ⟨-, h⟩ | ⟨e, -, ⟨-, h⟩ | ⟨-, -, h⟩ | ⟨-, -, h⟩⟩ <;> rw [h]
  · exact .of_chan fun _ => rfl
  · exact sameComparisons_abortTrain c d s
  · exact .refl s
  · exact sameComparisons_modChan (f := fun x => { x with queue := x.queue ++ [e] }) (fun _ => rfl) c s
  · exact .refl s

theorem sameComparisons_handToQueues (c : Chan) (d : Descriptor) (v : Byte) (s : State) :
    SameComparisons s (handToQueues c d v s) := by
  have hexamined := sameComparisons_examine c d v .host s
  unfold handToQueues
  split
  case h_1 e t he =>
    rw [he] at hexamined
    split
    · exact hexamined.trans (sameComparisons_answerHost .normal none (recordChannel .queueFull c v t))
    · exact hexamined
  all_goals
    rename_i t he
    rw [he] at hexamined
    exact hexamined.trans (sameComparisons_answerHost .normal none t)

theorem sameComparisons_arrives (h : HostStrobes) (s : State) : SameComparisons s (arrives h s) := by
  have hread (a : Addr) (c : Chan) : SameComparisons s (governedReadArrives a c s) :=
    sameComparisons_answerHost _ _ (arrive .read a none (some (.governed c)) s)
  have hpass (a : Addr) (data : Option Byte) : SameComparisons s (passArrives a data s) :=
    sameComparisons_arbitrate _
  have hwrite (a : Addr) (v : Byte) (c : Chan) : SameComparisons s (governedWriteArrives a v c s) := by
    unfold governedWriteArrives
    split
    · exact .refl s
    · dsimp only
      split
      · exact sameComparisons_answerHost .normal none
          (recordChannel .blockedWrite c v (arrive .write a (some v) (some (.governed c)) s))
      · exact sameComparisons_handToQueues c _ v (arrive .write a (some v) (some (.governed c)) s)
  cases h with
  | read a =>
    simp only [arrives]
    split
    · exact hread a _
    · exact hpass a none
  | write a v =>
    simp only [arrives]
    split
    · exact hwrite a v _
    · exact hpass a (some v)
  | invalid a => exact sameComparisons_answerHost .error none (arrive .invalid a none none s)

/-! ### SENSEn taken at the levels they show (R130) -/

/-- SENSEn of a channel has been taken at the level it shows: the phase agrees with it. -/
def SenseTaken (s : State) (c : Chan) : Prop :=
  ∀ k, (s.chan c).cmp = some k →
    (k.phase = .agree → k.expected = some s.pins.sense[c.val]) ∧
    (k.phase = .filtering ∨ k.phase = .confirmed → k.expected ≠ some s.pins.sense[c.val])

theorem SenseTaken.congr {s t : State} {c : Chan} (h : SenseTaken s c) (hcmp : (t.chan c).cmp = (s.chan c).cmp)
    (hpins : t.pins = s.pins) : SenseTaken t c := by
  unfold SenseTaken
  rw [hcmp, hpins]
  exact h

theorem sensed_eq_self {k : Comparison} {level : Bool} (hagree : k.phase = .agree → k.expected = some level)
    (hfilter : k.phase = .filtering ∨ k.phase = .confirmed → k.expected ≠ some level) :
    k.sensed level = k := by
  unfold Comparison.sensed
  split
  case h_1 h => simp [hagree h]
  case h_2 h => simp [hfilter (.inl h)]
  case h_3 h => simp [hfilter (.inr h)]
  all_goals rfl

theorem actOnSense_eq_self {s : State} {c : Chan} (h : SenseTaken s c) : actOnSense c s = s := by
  have hmap : (s.chan c).cmp.map (fun k => k.sensed (s.senseLevel c)) = (s.chan c).cmp := by
    cases hk : (s.chan c).cmp with
    | none => rfl
    | some k =>
      obtain ⟨hagree, hfilter⟩ := h k hk
      exact congrArg some (sensed_eq_self hagree hfilter)
  have hsame : (match (s.chan c).desc.bind (·.feedback) with
      | some _ => { s.chan c with cmp := (s.chan c).cmp.map fun k => k.sensed (s.senseLevel c) }
      | none => s.chan c) = s.chan c := by
    split
    · rw [hmap]
    · rfl
  exact (congrArg (s.setChan c) hsame).trans (setChan_self s c)

theorem foldl_actOnSense {l : List Chan} {s : State} (h : ∀ c ∈ l, SenseTaken s c) :
    l.foldl (fun t c => actOnSense c t) s = s := by
  induction l with
  | nil => rfl
  | cons c l ih =>
    rw [List.foldl_cons, actOnSense_eq_self (h c List.mem_cons_self)]
    exact ih fun k hk => h k (List.mem_cons_of_mem c hk)

theorem takeSense_eq_self {s : State} (h : ∀ c, SenseTaken s c) : takeSense s = s :=
  foldl_actOnSense fun c _ => h c

/-- With one channel's level not yet taken, the taking of all is that channel's. -/
theorem takeSense_alone {s : State} (c : Chan) (h : ∀ k, k ≠ c → SenseTaken s k) :
    takeSense s = actOnSense c s := by
  obtain ⟨ahead, behind, hsplit⟩ := List.append_of_mem (mem_allChans c)
  have hnodup : (ahead ++ c :: behind).Nodup := hsplit ▸ allChans_pairwise_lt.imp ne_of_lt
  obtain ⟨-, hcons, hapart⟩ := List.nodup_append.mp hnodup
  have hahead : ∀ k ∈ ahead, SenseTaken s k := fun k hk => h k (hapart k hk c List.mem_cons_self)
  have hbehind : ∀ k ∈ behind, SenseTaken (actOnSense c s) k := fun k hk => by
    have hne : k ≠ c := fun e => (List.nodup_cons.mp hcons).1 (e ▸ hk)
    exact (h k hne).congr (congrArg Channel.cmp (modChan_chan_ne s c k _ hne)) rfl
  rw [takeSense, hsplit, List.foldl_append, foldl_actOnSense hahead, List.foldl_cons, foldl_actOnSense hbehind]

/-! ### MCS#, SAFE# and the host strobes taken at the levels they show -/

theorem takeSelect_eq_self {s : State} (h : s.pins.mcsLow = true ↔ s.mgmt.phase ≠ .closed) :
    takeSelect s = s := by
  unfold takeSelect
  cases hl : s.pins.mcsLow <;> simp_all

theorem takeSelect_fall {s : State} (hlow : s.pins.mcsLow = true) (hphase : s.mgmt.phase = .closed) :
    takeSelect s = openTransaction s := by
  simp [takeSelect, hlow, hphase]

theorem takeSelect_rise {s : State} (hhigh : s.pins.mcsLow = false) (hphase : s.mgmt.phase ≠ .closed) :
    takeSelect s = closeTransaction s := by
  simp [takeSelect, hhigh, hphase]

theorem takeSelect_pins (s : State) : (takeSelect s).pins = s.pins := by
  unfold takeSelect closeTransaction
  repeat' split
  all_goals rfl

theorem reset_chan (c : Chan) : State.reset.chan c = Channel.empty := by
  simp [State.reset, State.chan]

theorem resetPart_chan (s : State) (c : Chan) : (resetPart s).chan c = Channel.empty := reset_chan c

theorem senseTaken_resetPart (s : State) (c : Chan) : SenseTaken (resetPart s) c := fun k hk => by
  rw [resetPart_chan] at hk
  cases hk

/-- The rise of MCS# may apply a reset, which leaves no comparison behind. -/
theorem SenseTaken.takeSelect {s : State} {c : Chan} (h : SenseTaken s c) : SenseTaken (takeSelect s) c := by
  unfold Machine.takeSelect closeTransaction
  repeat' split
  · exact h
  · exact senseTaken_resetPart s c
  · exact h
  · exact h

theorem takeSafeLine_eq_self {s : State} (h : s.pins.safeHigh = true) : takeSafeLine s = s := by
  simp [takeSafeLine, h]

theorem takeStrobes_eq_self {arrival : HostStrobes → State → State} {s : State} (h : s.pins.strobes = none) :
    takeStrobes arrival s = s := by
  simp [takeStrobes, h]

/-- The strobes noted as taken. -/
def strobesTaken (s : State) : State := { s with pins := { s.pins with strobes := none } }

theorem takeStrobes_gone {arrival : HostStrobes → State → State} {s : State}
    (h : s.pins.strobes = some none) : takeStrobes arrival s = strobesReleased (strobesTaken s) := by
  simp [takeStrobes, h, strobesTaken]

theorem strobesReleased_of_idle {s : State} (h : s.port.state = .idle) : strobesReleased s = s := by
  simp [strobesReleased, h]

theorem strobesReleased_of_ending {s : State} (h : s.port.state = .ending) :
    strobesReleased s = { s with port := HostPort.idle } := by
  simp [strobesReleased, h]

theorem takeStrobes_arrival {arrival : HostStrobes → State → State} {s : State} {h : HostStrobes}
    (hs : s.pins.strobes = some (some h)) (hidle : s.port.state = .idle) :
    takeStrobes arrival s = arrival h (strobesTaken s) := by
  have hportIdle : (strobesTaken s).portIdle = true := by simp [State.portIdle, strobesTaken, hidle]
  have hreleased : strobesReleased (strobesTaken s) = strobesTaken s := strobesReleased_of_idle hidle
  simp only [strobesTaken] at hportIdle hreleased
  simp [takeStrobes, hs, strobesTaken, hportIdle, hreleased]

/-- A cycle that has been answered goes on while its strobes are shown; other strobes are a new cycle. -/
theorem takeStrobes_ending {arrival : HostStrobes → State → State} {s : State} {h : HostStrobes} {k : HostCycle}
    (hs : s.pins.strobes = some (some h)) (hending : s.port.state = .ending) (hk : s.port.cycle = some k) :
    takeStrobes arrival s =
      if h.kind = .invalid ∨ h.kind = k.kind then strobesTaken s
      else arrival h { strobesTaken s with port := HostPort.idle } := by
  have hportIdle : (strobesTaken s).portIdle = false := by simp [State.portIdle, strobesTaken, hending]
  have hreleased : strobesReleased (strobesTaken s) = { strobesTaken s with port := HostPort.idle } :=
    strobesReleased_of_ending hending
  simp only [strobesTaken] at hportIdle hreleased
  simp only [takeStrobes, hs, strobesTaken, hportIdle, hreleased, hk, HostStrobes.keep, Option.any_some,
    Bool.not_false, Bool.true_and, Bool.or_eq_true, beq_iff_eq]
  rfl

/-! ### The end of a reset -/

theorem arrivesInReset_eq (h : HostStrobes) (s : State) :
    arrivesInReset h s =
      { s with
        port := answeredPort h.kind h.address h.data none .normal
          (if h.kind = .read then some 0xFF else none) } := by
  rw [arrivesInReset, answerHost_held rfl]
  rfl

/-- While CLK has run in reset, the levels the release takes are those already taken. -/
theorem takeInputsInReset_eq_self {s t : State} (hsound : Sound s) (hreset : s.heldInReset = true)
    (hclk : s.pins.clkRunning = true) (hmgmt : t.mgmt = s.mgmt) (hlow : t.pins.mcsLow = s.pins.mcsLow)
    (hstrobes : t.pins.strobes = s.pins.strobes) : takeInputsInReset t = t := by
  obtain ⟨-, -, -, -, -, -, -, -, -, -, -, -, -, -, -, hhold, hinput⟩ := hsound
  obtain ⟨-, -, -, -, -, -, -, -, hphase, -⟩ := hhold hreset
  obtain ⟨hselect, hnone⟩ := hinput hclk
  have hsame : (if t.pins.mcsLow then Phase.discarding else .closed) = t.mgmt.phase := by
    rw [hlow, hmgmt]
    rcases hphase with h | h <;> cases hl : s.pins.mcsLow <;> simp_all
  rw [takeInputsInReset, takeStrobes_eq_self (by exact hstrobes.trans hnone), hsame]

/-- The release of the hold takes MCS# and the host strobes, and a change of the level alone does not. -/
theorem exec_release {s t : State} {i : Instr} (hexec : exec i s = .next (endHold s t))
    (h : s.heldInReset = true) (ht : t.heldInReset = false) :
    exec i s = .next (takeStrobes arrivesInReset
      { t with mgmt := { t.mgmt with phase := if t.pins.mcsLow then .discarding else .closed } }) := by
  rw [hexec, endHold, h, ht]
  rfl

/-! ### CLK running again -/

theorem exec_clkRunsAgain {s : State} (hclk : s.pins.clkRunning = false) (hreset : s.heldInReset = false) :
    ∃ order, exec .clkRunsAgain s = .next (takeSense (takePins order (setClock true s))) := by
  have hheld : (setClock true s).heldInReset = false := hreset
  refine ⟨Config.inputOrder s.ctl.timestamp, ?_⟩
  change execClkRunsAgain s = _
  simp [execClkRunsAgain, hclk, takeInputs, hheld]

theorem takePins_select {s t : State} (order : Fin 6) (hselect : takeSelect s = t)
    (hhost : takeStrobes arrives s = s) (hsafe : takeSafeLine s = s) (hhost' : takeStrobes arrives t = t)
    (hsafe' : takeSafeLine t = t) : takePins order s = t := by
  unfold takePins
  split <;> simp only [hselect, hhost, hsafe, hhost', hsafe']

theorem takePins_host {s t : State} (order : Fin 6) (hselect : takeSelect s = s)
    (hhost : takeStrobes arrives s = t) (hsafe : takeSafeLine s = s) (hselect' : takeSelect t = t)
    (hsafe' : takeSafeLine t = t) : takePins order s = t := by
  unfold takePins
  split <;> simp only [hselect, hhost, hsafe, hselect', hsafe']

theorem takePins_safe {s t : State} (order : Fin 6) (hselect : takeSelect s = s)
    (hhost : takeStrobes arrives s = s) (hsafe : takeSafeLine s = t) (hselect' : takeSelect t = t)
    (hhost' : takeStrobes arrives t = t) : takePins order s = t := by
  unfold takePins
  split <;> simp only [hselect, hhost, hsafe, hselect', hhost']

section
variable {s : State} (hclk : s.pins.clkRunning = false) (hreset : s.heldInReset = false)
include hclk hreset

/-- Every input at the level last taken. -/
theorem exec_clkRunsAgain_none (hselect : s.pins.mcsLow = true ↔ s.mgmt.phase ≠ .closed)
    (hhost : s.pins.strobes = none) (hsafe : s.pins.safeHigh = true) (hsense : ∀ c, SenseTaken s c) :
    exec .clkRunsAgain s = .next (setClock true s) := by
  obtain ⟨order, hexec⟩ := exec_clkRunsAgain hclk hreset
  have hfixSelect : takeSelect (setClock true s) = setClock true s := takeSelect_eq_self hselect
  have hfixHost : takeStrobes arrives (setClock true s) = setClock true s := takeStrobes_eq_self hhost
  have hfixSafe : takeSafeLine (setClock true s) = setClock true s := takeSafeLine_eq_self hsafe
  rw [hexec, takePins_select order hfixSelect hfixHost hfixSafe hfixHost hfixSafe,
    takeSense_eq_self (s := setClock true s) hsense]

/-- MCS# alone at another level. -/
theorem exec_clkRunsAgain_select (hhost : s.pins.strobes = none) (hsafe : s.pins.safeHigh = true)
    (hsense : ∀ c, SenseTaken s c) : exec .clkRunsAgain s = .next (takeSelect (setClock true s)) := by
  obtain ⟨order, hexec⟩ := exec_clkRunsAgain hclk hreset
  have hpins := takeSelect_pins (setClock true s)
  rw [hexec, takePins_select (s := setClock true s) order rfl (takeStrobes_eq_self hhost) (takeSafeLine_eq_self hsafe)
    (takeStrobes_eq_self (by rw [hpins]; exact hhost)) (takeSafeLine_eq_self (by rw [hpins]; exact hsafe)),
    takeSense_eq_self fun c => SenseTaken.takeSelect (s := setClock true s) (hsense c)]

/-- SAFE# alone at another level: it is low. -/
theorem exec_clkRunsAgain_safe (hselect : s.pins.mcsLow = true ↔ s.mgmt.phase ≠ .closed)
    (hhost : s.pins.strobes = none) (hlow : s.pins.safeHigh = false) (hsense : ∀ c, SenseTaken s c) :
    exec .clkRunsAgain s = .next (arbitrate (actOnSafeLow (setClock true s))) := by
  obtain ⟨order, hexec⟩ := exec_clkRunsAgain hclk hreset
  have hsame : SameComparisons s (arbitrate (actOnSafeLow (setClock true s))) :=
    (sameComparisons_actOnSafeLow (setClock true s)).trans (sameComparisons_arbitrate _)
  obtain ⟨hmgmt, hpins⟩ : (arbitrate (actOnSafeLow (setClock true s))).mgmt = s.mgmt ∧
      (arbitrate (actOnSafeLow (setClock true s))).pins = (setClock true s).pins := by
    rw [arbitrate_mgmt, arbitrate_pins]
    exact actOnSafeLow_mgmt_pins _
  have htaken : takeSafeLine (setClock true s) = arbitrate (actOnSafeLow (setClock true s)) := by
    simp [takeSafeLine, hlow]
  rw [hexec, takePins_safe (s := setClock true s) order (takeSelect_eq_self hselect) (takeStrobes_eq_self hhost) htaken
    (takeSelect_eq_self (by rw [hmgmt, hpins]; exact hselect))
    (takeStrobes_eq_self (by rw [hpins]; exact hhost)),
    takeSense_eq_self fun c => (show SenseTaken (setClock true s) c from hsense c).congr (hsame c) hpins]

/-- One SENSEn alone at another level. -/
theorem exec_clkRunsAgain_sense (c : Chan) (hselect : s.pins.mcsLow = true ↔ s.mgmt.phase ≠ .closed)
    (hhost : s.pins.strobes = none) (hsafe : s.pins.safeHigh = true)
    (hsense : ∀ k, k ≠ c → SenseTaken s k) :
    exec .clkRunsAgain s = .next (actOnSense c (setClock true s)) := by
  obtain ⟨order, hexec⟩ := exec_clkRunsAgain hclk hreset
  have hfixSelect : takeSelect (setClock true s) = setClock true s := takeSelect_eq_self hselect
  have hfixHost : takeStrobes arrives (setClock true s) = setClock true s := takeStrobes_eq_self hhost
  have hfixSafe : takeSafeLine (setClock true s) = setClock true s := takeSafeLine_eq_self hsafe
  rw [hexec, takePins_select order hfixSelect hfixHost hfixSafe hfixHost hfixSafe,
    takeSense_alone (s := setClock true s) c hsense]

/-- The host strobes alone at another level. -/
theorem exec_clkRunsAgain_host {t : State} (hselect : s.pins.mcsLow = true ↔ s.mgmt.phase ≠ .closed)
    (ht : takeStrobes arrives (setClock true s) = t) (hmgmt : t.mgmt = s.mgmt)
    (hpins : t.pins = (strobesTaken (setClock true s)).pins) (hsame : SameComparisons s t)
    (hsafe : s.pins.safeHigh = true) (hsense : ∀ c, SenseTaken s c) : exec .clkRunsAgain s = .next t := by
  obtain ⟨order, hexec⟩ := exec_clkRunsAgain hclk hreset
  rw [hexec, takePins_host (s := setClock true s) order (takeSelect_eq_self hselect) ht (takeSafeLine_eq_self hsafe)
    (takeSelect_eq_self (by rw [hmgmt, hpins]; exact hselect))
    (takeSafeLine_eq_self (by rw [hpins]; exact hsafe)),
    takeSense_eq_self fun c =>
      (show SenseTaken (strobesTaken (setClock true s)) c from hsense c).congr (hsame c) hpins]

end

/-! ### The rows that take an input alone -/

/-- A pin that stands at a level, moved away from it and back, with CLK running. -/
theorem setSelect_back {s : State} {b b' : Bool} (h : s.pins.mcsLow = b) :
    setSelect b { s with pins := { s.pins with mcsLow := b', clkRunning := true } } = setClock true s := by
  subst h
  rfl

theorem setSafePin_back {s : State} {b b' : Bool} (h : s.pins.safeHigh = b) :
    setSafePin b { s with pins := { s.pins with safeHigh := b', clkRunning := true } } = setClock true s := by
  subst h
  rfl

/-- The state in which CLK runs and the pins stand as given. -/
def runningWith (s : State) (p : Pins) : State := { s with pins := { p with clkRunning := true } }

theorem exec_select_running {s : State} (h : ¬ (s.pins.mcsLow = true ↔ s.mgmt.phase ≠ .closed)) :
    exec (if s.pins.mcsLow then .transactionOpen else .transactionClose)
        (runningWith s { s.pins with mcsLow := !s.pins.mcsLow }) =
      .next (takeSelect (setClock true s)) := by
  cases hlow : s.pins.mcsLow with
  | true =>
    have hphase : (setClock true s).mgmt.phase = .closed := by simpa [hlow] using h
    rw [if_pos rfl, exec_transactionOpen rfl rfl, takeSelect_fall (s := setClock true s) hlow hphase]
    exact congrArg (fun t => Host.Outcome.next (openTransaction t)) (setSelect_back hlow)
  | false =>
    have hphase : (setClock true s).mgmt.phase ≠ .closed := by simpa [hlow] using h
    rw [if_neg Bool.false_ne_true, exec_transactionClose rfl rfl, takeSelect_rise (s := setClock true s) hlow hphase]
    exact congrArg (fun t => Host.Outcome.next (closeTransaction t)) (setSelect_back hlow)

theorem live_runningWith {s : State} (p : Pins) (hlow : p.resetLow = s.pins.resetLow)
    (hok : p.supplyOk = s.pins.supplyOk) (hreset : s.heldInReset = false) : (runningWith s p).live = true := by
  rw [live_iff]
  refine ⟨rfl, ?_⟩
  rw [← hreset]
  exact congrArg₂ (fun a b => a || !b) hlow hok

theorem exec_safeLineFall {s : State} (hlive : s.live = true) (hhigh : s.pins.safeHigh = true) :
    exec .safeLineFall s = .next (arbitrate (actOnSafeLow (setSafePin false s))) := by
  change execSafeLineFall s = _
  simp [execSafeLineFall, hlive, hhigh]

theorem exec_safeLineFall_running {s : State} (hreset : s.heldInReset = false)
    (hlow : s.pins.safeHigh = false) :
    exec .safeLineFall (runningWith s { s.pins with safeHigh := true }) =
      .next (arbitrate (actOnSafeLow (setClock true s))) := by
  rw [exec_safeLineFall (live_runningWith { s.pins with safeHigh := true } rfl rfl hreset) rfl]
  exact congrArg (fun t => Host.Outcome.next (arbitrate (actOnSafeLow t))) (setSafePin_back hlow)

theorem exec_senseChange {s : State} {c : Chan} {high : Bool} (hlive : s.live = true)
    (h : s.senseLevel c ≠ high) :
    exec (.senseChange c high) s =
      .next (actOnSense c { s with pins := { s.pins with sense := s.pins.sense.set c.val high } }) := by
  change execSenseChange c high s = _
  simp [execSenseChange, hlive, h]

theorem exec_senseChange_running {s : State} (c : Chan) (hreset : s.heldInReset = false) :
    exec (.senseChange c s.pins.sense[c.val])
        (runningWith s { s.pins with sense := s.pins.sense.set c.val (!s.pins.sense[c.val]) }) =
      .next (actOnSense c (setClock true s)) := by
  let p : Pins := { s.pins with sense := s.pins.sense.set c.val (!s.pins.sense[c.val]) }
  have hother : (runningWith s p).senseLevel c ≠ s.pins.sense[c.val] := by
    simp [State.senseLevel, runningWith, p]
  rw [exec_senseChange (live_runningWith p rfl rfl hreset) hother]
  simp [runningWith, setClock, p]

theorem exec_hostCycleEnd {s : State} (hclk : s.pins.clkRunning = true) :
    exec .hostCycleEnd s = .next (strobesReleased s) := by
  change execHostCycleEnd s = _
  simp [execHostCycleEnd, hclk]

theorem exec_passThroughArrival {s : State} {a : Addr} (data : Option Byte) (hs : CycleCanArrive s)
    (hnone : s.governed a = none) :
    exec (.passThroughArrival a data) s = .next (passArrives a data s) := by
  change execPassThroughArrival a data s = _
  rw [execPassThroughArrival, hnone]
  exact congrArg _ ((congrArg (s.onArrival · _ _) (Bool.and_true _)).trans (onArrival_taken hs))

/-- The row of an arrival, by the strobes and the address. -/
theorem exec_arrives {s : State} (h : HostStrobes) (hs : CycleCanArrive s) :
    exec
        (match h with
          | .read a => if s.governed a = none then .passThroughArrival a none else .governedRead a
          | .write a v =>
            if s.governed a = none then .passThroughArrival a (some v) else .governedWrite a v
          | .invalid a => .invalidCycle a) s = .next (arrives h s) := by
  cases h with
  | read a =>
    cases hg : s.governed a with
    | none => simp only [arrives, hg, if_true, exec_passThroughArrival none hs hg]
    | some c =>
      simp only [arrives, hg, reduceCtorEq, if_false]
      change execGovernedRead a s = _
      simp only [execGovernedRead, hg, onArrival_taken hs]
  | write a v =>
    cases hg : s.governed a with
    | none => simp only [arrives, hg, if_true, exec_passThroughArrival (some v) hs hg]
    | some c => simp only [arrives, hg, reduceCtorEq, if_false, exec_governedWrite_arrives hs hg]
  | invalid a => exact congrArg _ (onArrival_taken hs)

/-- Settles O34: a release takes MCS# and the strobes at the end of the hold alone, and CLK running again
takes the one input that shows another level as its own row does. -/
theorem releasesAndTheClock : Obligations.ReleasesAndTheClock := by
  refine ⟨fun s => rfl, ?_, ?_⟩
  · intro s level
    have hlevel (i : Instr) (p : Pins) (hexec : exec i s = .next (endHold s { s with pins := p }))
        (hlow : p.mcsLow = s.pins.mcsLow) (hstrobes : p.strobes = s.pins.strobes) :
        level i { s with pins := p } := by
      refine ⟨fun h => ?_, fun hr ht => ⟨fun hsound hclk => ?_, fun h => ?_, fun h hend => ?_, fun h hidle => ?_,
        fun h hs hidle => ?_, fun h k hs hend hk => ?_⟩⟩
      · rcases endHold_cases s { s with pins := p } with ⟨hr, ht, -⟩ | ⟨-, heq⟩
        · simp [hr, ht] at h
        · rw [hexec, heq]
      · rw [exec_release hexec hr ht]
        exact congrArg _ (takeInputsInReset_eq_self hsound hr hclk rfl hlow hstrobes)
      all_goals rw [exec_release hexec hr ht, ← hlow]
      · have hnone : p.strobes = none := hstrobes.trans h
        rw [takeStrobes_eq_self hnone]
        dsimp only
        rw [← hnone]
      · rw [takeStrobes_gone (hstrobes.trans h)]
        exact congrArg Host.Outcome.next (strobesReleased_of_ending (by exact hend))
      · rw [takeStrobes_gone (hstrobes.trans h)]
        exact congrArg Host.Outcome.next (strobesReleased_of_idle (by exact hidle))
      · rw [takeStrobes_arrival (hstrobes.trans hs) (by exact hidle), arrivesInReset_eq]
        rfl
      · rw [takeStrobes_ending (hstrobes.trans hs) (by exact hend) (by exact hk), arrivesInReset_eq]
        split
        · rfl
        · rfl
    exact ⟨hlevel _ _ rfl rfl rfl, hlevel _ _ rfl rfl rfl⟩
  · intro s hclk hreset running select host safe sense
    refine ⟨fun hselect hhost hsafe hsense => ?_, fun hselect hhost hsafe hsense => ?_,
      fun hselect hhost hsafe hsense => ?_, fun c hselect hhost hsafe hsense => ?_,
      fun hselect hhost hport hsafe hsense => ?_, fun h hselect hhost hport hsafe hsense => ?_⟩
    · exact exec_clkRunsAgain_none hclk hreset hselect hhost hsafe hsense
    · rw [exec_clkRunsAgain_select hclk hreset hhost hsafe hsense]
      exact (exec_select_running hselect).symm
    · have hlow : s.pins.safeHigh = false := Bool.eq_false_iff.mpr hsafe
      rw [exec_clkRunsAgain_safe hclk hreset hselect hhost hlow hsense]
      exact (exec_safeLineFall_running hreset hlow).symm
    · rw [exec_clkRunsAgain_sense hclk hreset c hselect hhost hsafe hsense]
      exact (exec_senseChange_running c hreset).symm
    · have hframe := strobesReleased_frame (strobesTaken (setClock true s))
      rw [exec_clkRunsAgain_host hclk hreset (t := strobesReleased (strobesTaken (setClock true s))) hselect
        (takeStrobes_gone hhost) (by rw [hframe]; rfl) (by rw [hframe]) (by rw [hframe]; exact fun _ => rfl)
        hsafe hsense]
      exact (exec_hostCycleEnd rfl).symm
    · have hcalm := calm_arrives h (strobesTaken (setClock true s))
      rw [exec_clkRunsAgain_host hclk hreset (t := arrives h (strobesTaken (setClock true s))) hselect
        (takeStrobes_arrival hhost hport) hcalm.mgmt hcalm.pins (sameComparisons_arrives h _) hsafe hsense]
      exact (exec_arrives (s := strobesTaken (setClock true s)) h
        ⟨live_runningWith { s.pins with strobes := none } rfl rfl hreset, hport⟩).symm

end Sys2Proof.Machine
end

section
/-! Governed cycles: the read from the view (R34, R116), and the write examined by its queue (R21 to R28, R69 to
R73, R118), which O38 and O41 to O43 are about. -/

namespace Sys2Proof.Machine

/-! ### Governed reads -/

theorem governed_eq_some_iff {s : State} {a : Addr} {c : Chan} (h : AddressLaw s) :
    s.governed a = some c ↔ (s.chan c).desc.map (·.target) = some a := by
  obtain ⟨hdistinct, -⟩ := h
  constructor
  · intro hg
    obtain ⟨d, hd, htarget⟩ := governed_desc hg
    rw [hd, Option.map_some, htarget]
  · intro hc
    refine find?_allChans_of_first ?_ fun k hk => ?_
    · obtain ⟨d, hd, htarget⟩ := Option.map_eq_some_iff.mp hc
      simp [hd, htarget]
    · cases hd : (s.chan k).desc with
      | none => rfl
      | some e =>
        have hne := hdistinct k c (ne_of_lt hk) (by rw [hd]; rfl)
        rw [hc, hd] at hne
        simpa using hne

theorem exec_governedRead {s : State} {a : Addr} {c : Chan} {d : Descriptor} (hs : CycleCanArrive s)
    (hg : s.governed a = some c) (hd : (s.chan c).desc = some d) :
    exec (.governedRead a) s = .next
      { s with
        port := answeredPort .read a none (some (.governed c)) .normal (some (readView d (s.chan c))) } := by
  change execGovernedRead a s = _
  simp only [execGovernedRead, hg, onArrival_taken hs]
  rw [governedReadArrives, answerHost_held rfl, hd]
  rfl

/-- Settles O38: distinct targets make the governing channel the one whose target it is, and the read is
answered at its arrival from the view. -/
theorem governedReadIsAnsweredFromTheView : Obligations.GovernedReadIsAnsweredFromTheView := by
  refine ⟨fun s a c h => ⟨governed_eq_some_iff h, governed_eq_none_iff⟩, fun s a c d hs hg hd => ?_⟩
  refine ⟨readView d (s.chan c), exec_governedRead hs hg hd, fun hview => ?_, fun hview hkind => ?_,
    fun hview hkind => ?_⟩
  · simp only [readView, hview]
  · cases hk : d.kind with
    | hold p => simp only [readView, hview, hk]
    | train p => simp [hk, KindPart.holdPart] at hkind
  · cases hk : d.kind with
    | hold p => simp [hk, KindPart.trainPart] at hkind
    | train p => simp only [readView, hview, hk]

/-! ### Decoding and absorption (R22, R24) -/

theorem exists_hold_of_holdPart {k : KindPart} (h : k.holdPart.isSome = true) : ∃ p, k = .hold p := by
  cases k with
  | hold p => exact ⟨p, rfl⟩
  | train p => cases h

theorem exists_train_of_trainPart {k : KindPart} (h : k.trainPart.isSome = true) : ∃ p, k = .train p := by
  cases k with
  | hold p => cases h
  | train p => exact ⟨p, rfl⟩

theorem decodeWrite_hold {k : KindPart} (h : k.holdPart.isSome = true) (v : Byte) (o : Origin) :
    decodeWrite k v o = .entry { kind := .set, operand := v, origin := o } := by
  obtain ⟨p, rfl⟩ := exists_hold_of_holdPart h
  rfl

theorem decodeWrite_train {k : KindPart} (h : k.trainPart.isSome = true) (v : Byte) (o : Origin) :
    decodeWrite k v o = decodeTrainData v o := by
  obtain ⟨p, rfl⟩ := exists_train_of_trainPart h
  rfl

theorem decodeTrainData_abort (o : Origin) : decodeTrainData 0x00 o = .abort := rfl

theorem byte_ne_zero {v : Byte} (h : 1 ≤ v.toNat) : v ≠ 0x00#8 := by
  rintro rfl
  exact absurd h (by decide)

theorem decodeTrainData_count {v : Byte} (o : Origin) (h : 0x01 ≤ v.toNat ∧ v.toNat ≤ 0x3F) :
    decodeTrainData v o = .entry { kind := .train, operand := v, origin := o } := by
  simp [decodeTrainData, byte_ne_zero h.1, h.2]

/-- The low four bits of a pause byte are its number of pause units. -/
theorem pause_operand {v : Byte} (h : 0x81 ≤ v.toNat ∧ v.toNat ≤ 0x8F) :
    v &&& 0x0F#8 = BitVec.ofNat 8 (v.toNat - 0x80) := by
  refine BitVec.eq_of_toNat_eq ?_
  have hlow : v.toNat &&& 15 = v.toNat % 16 := Nat.and_two_pow_sub_one_eq_mod v.toNat 4
  rw [BitVec.toNat_and, BitVec.toNat_ofNat, BitVec.toNat_ofNat]
  refine hlow.trans ?_
  omega

theorem decodeTrainData_pause {v : Byte} (o : Origin) (h : 0x81 ≤ v.toNat ∧ v.toNat ≤ 0x8F) :
    decodeTrainData v o =
      .entry { kind := .pause, operand := BitVec.ofNat 8 (v.toNat - 0x80), origin := o } := by
  have hcount : ¬ v.toNat ≤ 0x3F := by omega
  simp only [decodeTrainData, byte_ne_zero (by omega : 1 ≤ v.toNat), hcount, h, pause_operand h, if_false,
    if_true, and_self]

theorem decodeTrainData_undefined {v : Byte} (o : Origin)
    (h : (0x40 ≤ v.toNat ∧ v.toNat ≤ 0x80) ∨ 0x90 ≤ v.toNat) : decodeTrainData v o = .undefinedData := by
  have hcount : ¬ v.toNat ≤ 0x3F := by omega
  have hpause : ¬ (0x81 ≤ v.toNat ∧ v.toNat ≤ 0x8F) := by omega
  simp only [decodeTrainData, byte_ne_zero (by omega : 1 ≤ v.toNat), hcount, hpause, if_false]

theorem absorbs_hold_iff {k : KindPart} {x : Channel} {v : Byte} (h : k.holdPart.isSome = true) :
    absorbs k x v = true ↔
      (∃ e, x.queue.getLast? = some e ∧ e.operand = v) ∨ (x.queue = [] ∧ x.intended = some v) := by
  obtain ⟨p, rfl⟩ := exists_hold_of_holdPart h
  cases hq : x.queue.getLast? with
  | none => simp [absorbs, List.getLast?_eq_none_iff.mp hq]
  | some e =>
    have hne : x.queue ≠ [] := by rintro hnil; simp [hnil] at hq
    simp [absorbs, hq, hne]

theorem absorbs_train {k : KindPart} (h : k.trainPart.isSome = true) (x : Channel) (v : Byte) :
    absorbs k x v = false := by
  obtain ⟨p, rfl⟩ := exists_train_of_trainPart h
  rfl

/-! ### The results of an examination (R21) -/

section
variable {c : Chan} {d : Descriptor} {v : Byte} {o : Origin} {s : State} {e : Entry}

theorem examine_refused (h : decodeWrite d.kind v o = .undefinedData) :
    examine c d v o s = (.refused, recordChannel .badData c v s) := by
  simp [examine, h]

theorem examine_aborted (h : decodeWrite d.kind v o = .abort) :
    examine c d v o s = (.aborted, abortTrain c d s) := by
  simp [examine, h]

theorem examine_absorbed (h : decodeWrite d.kind v o = .entry e) (ha : absorbs d.kind (s.chan c) v = true) :
    examine c d v o s = (.absorbed, s) := by
  simp [examine, h, ha]

theorem examine_appended (h : decodeWrite d.kind v o = .entry e) (ha : absorbs d.kind (s.chan c) v = false)
    (hroom : (s.chan c).queue.length < 8) : examine c d v o s = (.appended, appendEntry c e s) := by
  simp [examine, h, ha, Config.queueDepth, hroom]

theorem examine_meetsFull (h : decodeWrite d.kind v o = .entry e) (ha : absorbs d.kind (s.chan c) v = false)
    (hfull : 8 ≤ (s.chan c).queue.length) : examine c d v o s = (.meetsFull e, s) := by
  simp [examine, h, ha, Config.queueDepth, Nat.not_lt.mpr hfull]

end

/-! ### A governed write handed to its queue (R26 to R28, R118) -/

section
variable {s : State} {a : Addr} {v : Byte} {c : Chan} {d : Descriptor} {e : Entry}

/-- The port while it holds a governed write that is not yet answered. -/
theorem exec_governedWrite_handed (hs : CycleCanArrive s) (hg : s.governed a = some c)
    (hd : (s.chan c).desc = some d) (hrun : s.ctl.mode = .run) (hfault : (s.chan c).state ≠ .fault) :
    exec (.governedWrite a v) s =
      .next (handToQueues c d v (arrive .write a (some v) (some (.governed c)) s)) := by
  rw [exec_governedWrite_arrives hs hg]
  simp only [governedWriteArrives, hd, hrun, ne_eq, not_true_eq_false, false_or, hfault, if_false]

theorem handToQueues_absorbed (h : decodeWrite d.kind v .host = .entry e)
    (ha : absorbs d.kind (s.chan c) v = true) : handToQueues c d v s = answerHost .normal none s := by
  simp only [handToQueues, examine_absorbed h ha]

theorem handToQueues_appended (h : decodeWrite d.kind v .host = .entry e)
    (ha : absorbs d.kind (s.chan c) v = false) (hroom : (s.chan c).queue.length < 8) :
    handToQueues c d v s = answerHost .normal none (appendEntry c e s) := by
  simp only [handToQueues, examine_appended h ha hroom]

theorem handToQueues_discarded (h : decodeWrite d.kind v .host = .entry e)
    (ha : absorbs d.kind (s.chan c) v = false) (hfull : 8 ≤ (s.chan c).queue.length)
    (hpolicy : d.policy = .discard) :
    handToQueues c d v s = answerHost .normal none (recordChannel .queueFull c v s) := by
  simp only [handToQueues, examine_meetsFull h ha hfull, hpolicy]

theorem handToQueues_stalled (h : decodeWrite d.kind v .host = .entry e)
    (ha : absorbs d.kind (s.chan c) v = false) (hfull : 8 ≤ (s.chan c).queue.length)
    (hpolicy : d.policy = .stall) : handToQueues c d v s = stallHost c v e s := by
  simp only [handToQueues, examine_meetsFull h ha hfull, hpolicy]

theorem handToQueues_refused (h : decodeWrite d.kind v .host = .undefinedData) :
    handToQueues c d v s = answerHost .normal none (recordChannel .badData c v s) := by
  simp only [handToQueues, examine_refused h]

theorem handToQueues_aborted (h : decodeWrite d.kind v .host = .abort) :
    handToQueues c d v s = answerHost .normal none (abortTrain c d s) := by
  simp only [handToQueues, examine_aborted h]

/-- An entry that no absorption takes: appended, dropped or held by the length of the queue and the policy. -/
theorem exec_governedWrite_entry (hs : CycleCanArrive s) (hg : s.governed a = some c)
    (hd : (s.chan c).desc = some d) (hrun : s.ctl.mode = .run) (hfault : (s.chan c).state ≠ .fault)
    (h : decodeWrite d.kind v .host = .entry e) (ha : absorbs d.kind (s.chan c) v = false) :
    let answered : HostPort := answeredPort .write a (some v) (some (.governed c)) .normal none
    ((s.chan c).queue.length < 8 →
      exec (.governedWrite a v) s = .next
        { s.setChan c { s.chan c with queue := (s.chan c).queue ++ [e] } with port := answered }) ∧
    (8 ≤ (s.chan c).queue.length → d.policy = .discard →
      exec (.governedWrite a v) s = .next { recordChannel .queueFull c v s with port := answered }) ∧
    (8 ≤ (s.chan c).queue.length → d.policy = .stall →
      exec (.governedWrite a v) s = .next
        { s with
          port :=
            { state := .stalled
              cycle := some
                { kind := .write, address := a, data := some v, decode := some (.governed c),
                  ending := none, answer := none }
              stallTimer := some s.ctl.stallLimit.toNat
              held := some { channel := c, data := v, entry := e }
              released := false } }) := by
  rw [exec_governedWrite_handed hs hg hd hrun hfault]
  refine ⟨fun hroom => ?_, fun hfull hpolicy => ?_, fun hfull hpolicy => ?_⟩
  · rw [handToQueues_appended h (by exact ha) (by exact hroom), answerHost_held rfl]
    rfl
  · rw [handToQueues_discarded h (by exact ha) (by exact hfull) hpolicy, answerHost_recordChannel_arrive]
  · rw [handToQueues_stalled h (by exact ha) (by exact hfull) hpolicy]
    rfl

end

/-- Settles O41: absorption decides first, then the room in the queue, then the policy. -/
theorem holdWriteIsAbsorbedQueuedOrHeld : Obligations.HoldWriteIsAbsorbedQueuedOrHeld := by
  intro s a v c d hs hg hd hkind hrun hfault answered absorbed
  have hentry := decodeWrite_hold hkind v .host
  have hiff : absorbs d.kind (s.chan c) v = true ↔ absorbed := absorbs_hold_iff hkind
  have hnot (h : ¬ absorbed) : absorbs d.kind (s.chan c) v = false :=
    Bool.eq_false_iff.mpr (mt hiff.mp h)
  refine ⟨fun h => ?_, fun h => ?_, fun h => ?_, fun h => ?_⟩
  · rw [exec_governedWrite_handed hs hg hd hrun hfault, handToQueues_absorbed hentry (by exact hiff.mpr h),
      answerHost_held rfl]
    rfl
  · obtain ⟨happended, -⟩ := exec_governedWrite_entry hs hg hd hrun hfault hentry (hnot h)
    exact happended
  · obtain ⟨-, hdiscarded, -⟩ := exec_governedWrite_entry hs hg hd hrun hfault hentry (hnot h)
    exact hdiscarded
  · obtain ⟨-, -, hstalled⟩ := exec_governedWrite_entry hs hg hd hrun hfault hentry (hnot h)
    exact hstalled

/-- Settles O42: the byte decodes to an entry or to nothing, and no TRAIN write is absorbed. -/
theorem trainWriteIsDecodedByItsByte : Obligations.TrainWriteIsDecodedByItsByte := by
  intro s a v c d hs hg hd hkind hrun hfault answered taken
  have hdecode := decodeWrite_train hkind v .host
  refine ⟨fun h => ?_, fun h => ?_, fun h => ?_⟩
  · exact exec_governedWrite_entry hs hg hd hrun hfault (hdecode.trans (decodeTrainData_count .host h))
      (absorbs_train hkind _ v)
  · exact exec_governedWrite_entry hs hg hd hrun hfault (hdecode.trans (decodeTrainData_pause .host h))
      (absorbs_train hkind _ v)
  · rw [exec_governedWrite_handed hs hg hd hrun hfault,
      handToQueues_refused (hdecode.trans (decodeTrainData_undefined .host h)),
      answerHost_recordChannel_arrive]

/-! ### ABORT (R69 to R73) -/

theorem half_eq_zero_iff {h : Half} : h.toNat = 0 ↔ h = 0 :=
  ⟨fun hzero => BitVec.eq_of_toNat_eq hzero, fun hzero => by rw [hzero]; rfl⟩

theorem withdraw_eq {c : Chan} {d : Descriptor} {s : State} (hd : (s.chan c).desc = some d) :
    withdraw c s = waiterRemoved c d s := by
  cases hg : d.group <;> simp [withdraw, waiterRemoved, State.groupOf, hd, hg]

/-- A channel changed within its own record leaves and joins lists as before. -/
theorem waiterRemoved_setChan (c : Chan) (d : Descriptor) (s : State) (k : Chan) (x : Channel) :
    waiterRemoved c d (s.setChan k x) = (waiterRemoved c d s).setChan k x := by
  unfold waiterRemoved
  split <;> rfl

theorem waiterRemoved_chan (c : Chan) (d : Descriptor) (s : State) (k : Chan) :
    (waiterRemoved c d s).chan k = s.chan k := by
  unfold waiterRemoved
  split <;> rfl

theorem abortTrain_of_not_waiting {c : Chan} {d : Descriptor} {s : State} (h : (s.chan c).state ≠ .waiting) :
    abortTrain c d s =
      recordChannel .trainAborted c (BitVec.ofNat 8 (abortCount (s.chan c)))
        (s.setChan c (abortEffect d.gap { s.chan c with queue := [] })) := by
  simp only [abortTrain, h, if_false, id_eq, emptyQueue, modChan, setChan_chan_self, setChan_setChan]

theorem abortTrain_of_waiting {c : Chan} {d : Descriptor} {s : State} (hd : (s.chan c).desc = some d)
    (h : (s.chan c).state = .waiting) :
    abortTrain c d s =
      recordChannel .trainAborted c (BitVec.ofNat 8 (abortCount (s.chan c)))
        (waiterRemoved c d (s.setChan c (abortEffect d.gap { s.chan c with queue := [] }))) := by
  have hempty : ((emptyQueue c s).chan c).desc = some d := by
    rw [emptyQueue, modChan_chan_self]
    exact hd
  rw [abortTrain, if_pos h, withdraw_eq hempty]
  simp only [emptyQueue, modChan, waiterRemoved_setChan, setChan_chan_self, setChan_setChan]

/-- An abort does not look at the port. -/
theorem abortTrain_with_port (c : Chan) (d : Descriptor) (s : State) (p : HostPort) :
    abortTrain c d { s with port := p } = { abortTrain c d s with port := p } := by
  have hwithdraw (t : State) : withdraw c { t with port := p } = { withdraw c t with port := p } := by
    have hgroup : State.groupOf { t with port := p } c = t.groupOf c := rfl
    unfold withdraw
    rw [hgroup]
    cases t.groupOf c <;> rfl
  simp only [abortTrain]
  by_cases h : (s.chan c).state = .waiting
  · have h' : (State.chan { s with port := p } c).state = .waiting := h
    simp only [h, h', if_true]
    exact congrArg (fun t => recordChannel .trainAborted c (BitVec.ofNat 8 (abortCount (s.chan c)))
      (modChan c (abortEffect d.gap) t)) (hwithdraw (emptyQueue c s))
  · have h' : ¬ (State.chan { s with port := p } c).state = .waiting := h
    simp only [h, h', if_false]
    rfl

/-- Settles O43: the count and the effect by the state, the withdrawal in WAITING alone; a governed write of
00h takes this way through the queue. -/
theorem abortActsByTheState : Obligations.AbortActsByTheState := by
  refine ⟨?_, ?_⟩
  · intro s c d hd x aborted
    refine ⟨fun hstate hpending => ?_, fun hstate hpending => ?_, fun hstate => ?_, fun q hstate hq => ?_,
      fun hstate => ?_, fun hmark hspace hwaiting hpausing => ?_⟩
    · have hs : (s.chan c).state = .mark := hstate
      have hp : (s.chan c).abortPending = false := hpending
      simp only [aborted, abortTrain_of_not_waiting (show (s.chan c).state ≠ .waiting by simp [hs]),
        abortCount, abortEffect, hs, hp, Bool.false_eq_true, if_false, x]
    · have hs : (s.chan c).state = .mark := hstate
      have hp : (s.chan c).abortPending = true := hpending
      simp only [aborted, abortTrain_of_not_waiting (show (s.chan c).state ≠ .waiting by simp [hs]),
        abortCount, abortEffect, hs, hp, if_true, x]
    · have hs : (s.chan c).state = .space := hstate
      have htimer : (if (s.chan c).spaceTimer.isSome then startTimer d.gap.toNat else none) =
          if (s.chan c).spaceTimer = none ∨ d.gap = 0 then none else some (d.gap.toNat + 1) := by
        have hzero : d.gap.toNat = 0 ↔ d.gap = 0 := half_eq_zero_iff
        cases (s.chan c).spaceTimer <;> simp [startTimer, hzero]
      simp only [aborted, abortTrain_of_not_waiting (show (s.chan c).state ≠ .waiting by simp [hs]),
        abortCount, abortEffect, hs, htimer, x]
    · have hs : (s.chan c).state = .waiting := hstate
      have hr : (s.chan c).requested = some q := hq
      simp only [aborted, abortTrain_of_waiting hd hs, abortCount, abortEffect, hs, hr, Option.getD_some, x]
    · have hs : (s.chan c).state = .pausing := hstate
      simp only [aborted, abortTrain_of_not_waiting (show (s.chan c).state ≠ .waiting by simp [hs]),
        abortCount, abortEffect, hs, x]
    · have hw : (s.chan c).state ≠ .waiting := hwaiting
      have hcount : abortCount (s.chan c) = 0 := by
        unfold abortCount
        split <;> simp_all [x]
      have heffect : abortEffect d.gap x = x := by
        unfold abortEffect
        split <;> simp_all [x]
      simp only [aborted, abortTrain_of_not_waiting hw, hcount]
      exact congrArg (fun y => recordChannel .trainAborted c 0 (s.setChan c y)) heffect
  · intro s a c d hs hg hd hkind hrun hfault
    have hdecode := (decodeWrite_train hkind 0x00 .host).trans (decodeTrainData_abort .host)
    rw [exec_governedWrite_handed hs hg hd hrun hfault, handToQueues_aborted hdecode]
    rw [show arrive .write a (some 0x00) (some (.governed c)) s = { s with port := _ } from rfl,
      abortTrain_with_port, answerHost_held rfl]
    rfl

end Sys2Proof.Machine
end

section
/-! The held write examined again (R29, R120), the stall limit (R121), and the management writes to a queue (R31,
R33), which O44, O45 and O48 are about. -/

namespace Sys2Proof.Machine

/-! ### The re-examination (R29, R120) -/

theorem reexamine_eq_self {c : Chan} {s : State}
    (h : s.port.state ≠ .stalled ∨ (∀ h, s.port.held = some h → h.channel ≠ c) ∨
      8 ≤ (s.chan c).queue.length ∨ (s.chan c).desc = none) : reexamine c s = s := by
  rcases reexamine_cases c s with heq | ⟨w, d, hheld, hd, hstalled, hc, hroom, -⟩
  · exact heq
  · rcases h with h | h | h | h
    · exact absurd hstalled h
    · exact absurd hc (h w hheld)
    · omega
    · rw [hd] at h
      cases h

section
variable {s : State} {c : Chan} {d : Descriptor} {h : HeldWrite} {e : Entry}

/-- The held write meets room: its examination, and the end of its cycle. -/
theorem reexamine_held (hstalled : s.port.state = .stalled) (hheld : s.port.held = some h)
    (hc : h.channel = c) (hd : (s.chan c).desc = some d) (hroom : (s.chan c).queue.length < 8) :
    reexamine c s = { (examine c d h.data .host s).2 with port := endedPort s.port .normal none } := by
  have hcondition :
      s.port.state = .stalled ∧ h.channel = c ∧ (s.chan c).queue.length < Config.queueDepth :=
    ⟨hstalled, hc, hroom⟩
  simp only [reexamine, hheld, hd]
  rw [if_pos hcondition, answerHost_eq, examine_port]

theorem reexamine_absorbed (hstalled : s.port.state = .stalled) (hheld : s.port.held = some h)
    (hc : h.channel = c) (hd : (s.chan c).desc = some d) (hroom : (s.chan c).queue.length < 8)
    (hdecode : decodeWrite d.kind h.data .host = .entry e)
    (ha : absorbs d.kind (s.chan c) h.data = true) :
    reexamine c s = { s with port := endedPort s.port .normal none } := by
  rw [reexamine_held hstalled hheld hc hd hroom, examine_absorbed hdecode ha]

theorem reexamine_appended (hstalled : s.port.state = .stalled) (hheld : s.port.held = some h)
    (hc : h.channel = c) (hd : (s.chan c).desc = some d) (hroom : (s.chan c).queue.length < 8)
    (hdecode : decodeWrite d.kind h.data .host = .entry e)
    (ha : absorbs d.kind (s.chan c) h.data = false) :
    reexamine c s =
      { s.setChan c { s.chan c with queue := (s.chan c).queue ++ [e] } with
        port := endedPort s.port .normal none } := by
  rw [reexamine_held hstalled hheld hc hd hroom, examine_appended hdecode ha hroom]
  rfl

end

/-- The tail, or on an empty queue the intended value, is another value. -/
theorem absorbs_hold_eq_false {k : KindPart} {x : Channel} {v : Byte} (h : k.holdPart.isSome = true)
    (htail : ∀ e, x.queue.getLast? = some e → e.operand ≠ v)
    (hempty : x.queue = [] → x.intended ≠ some v) : absorbs k x v = false := by
  refine Bool.eq_false_iff.mpr fun ha => ?_
  rcases (absorbs_hold_iff h).mp ha with ⟨e, he, hv⟩ | ⟨hq, hv⟩
  · exact htail e he hv
  · exact hempty hq hv

theorem exec_stallTimeout {s : State} {h : HeldWrite} (hlive : s.live = true)
    (hstalled : s.port.state = .stalled) (htimer : s.port.stallTimer.isSome = true)
    (hheld : s.port.held = some h) :
    exec .stallTimeout s = .next (answerHost .error none (recordChannel .stallTimeout h.channel h.data s)) := by
  change execStallTimeout s = _
  simp only [execStallTimeout, hheld]
  rw [onEvent_taken hlive (by simp [hstalled, htimer])]

theorem exec_stallReexamine {s : State} {h : HeldWrite} (hlive : s.live = true)
    (hstalled : s.port.state = .stalled) (hheld : s.port.held = some h) :
    exec .stallReexamine s = .next (arbitrate (reexamine h.channel s)) := by
  change execStallReexamine s = _
  simp only [execStallReexamine, hheld]
  rw [onEvent_taken hlive (by simp [hstalled])]

/-- Settles O48: the limit drops the write and ends its cycle; the re-examination is the examination of a new
write against the queue as it stands. -/
theorem stallEndsByItsLimitOrAFreeSlot : Obligations.StallEndsByItsLimitOrAFreeSlot := by
  refine ⟨fun s h hlive hstalled htimer hheld => ?_, fun s h => exec_stallReexamine,
    fun s c => ⟨reexamine_eq_self, ?_⟩⟩
  · rw [exec_stallTimeout hlive hstalled htimer hheld, answerHost_eq]
    rfl
  · intro h d hstalled hheld hc hd hroom ended appended
    refine ⟨fun hkind => ⟨fun ha => ?_, fun htail hempty => ?_⟩, fun hkind => ⟨fun hv => ?_, fun hv => ?_⟩⟩
    · exact reexamine_absorbed hstalled hheld hc hd hroom (decodeWrite_hold hkind _ _)
        ((absorbs_hold_iff hkind).mpr ha)
    · exact reexamine_appended hstalled hheld hc hd hroom (decodeWrite_hold hkind _ _)
        (absorbs_hold_eq_false hkind htail hempty)
    · exact reexamine_appended hstalled hheld hc hd hroom
        ((decodeWrite_train hkind _ _).trans (decodeTrainData_count .host hv)) (absorbs_train hkind _ _)
    · exact reexamine_appended hstalled hheld hc hd hroom
        ((decodeWrite_train hkind _ _).trans (decodeTrainData_pause .host hv)) (absorbs_train hkind _ _)

/-! ### QUEUE_WRITE (R33) -/

theorem exec_queueWrite {s : State} (hs : Listening s) (hrun : s.ctl.mode = .run) (c : Chan) (v : Byte) :
    exec (.queueWrite [BitVec.ofNat 8 c.val, v]) s = .next
      (match (s.chan c).desc with
        | none => respond .notConfigured [] (recordChannel .blockedWrite c v s)
        | some d =>
          if (s.chan c).state = .fault then respond .blocked [] (recordChannel .blockedWrite c v s)
          else queueWriteExamined c d v s) := by
  obtain ⟨hlive, hphase⟩ := hs
  change execQueueWrite _ s = _
  rw [execQueueWrite, takeRequest_taken (n := 2) hlive hphase rfl (by simp [takenIn, hrun]),
    withChannel_good (toNat_byteAt_chan c [v])]
  rfl

section
variable {s : State} {c : Chan} {d : Descriptor} {v : Byte} {e : Entry}

theorem queueWriteExamined_absorbed (h : decodeWrite d.kind v .mgmt = .entry e)
    (ha : absorbs d.kind (s.chan c) v = true) : queueWriteExamined c d v s = respond .ok [] s := by
  simp only [queueWriteExamined, examine_absorbed h ha]

theorem queueWriteExamined_appended (h : decodeWrite d.kind v .mgmt = .entry e)
    (ha : absorbs d.kind (s.chan c) v = false) (hroom : (s.chan c).queue.length < 8) :
    queueWriteExamined c d v s =
      respond .ok [] (s.setChan c { s.chan c with queue := (s.chan c).queue ++ [e] }) := by
  simp only [queueWriteExamined, examine_appended h ha hroom]
  rfl

theorem queueWriteExamined_full (h : decodeWrite d.kind v .mgmt = .entry e)
    (ha : absorbs d.kind (s.chan c) v = false) (hfull : 8 ≤ (s.chan c).queue.length) :
    queueWriteExamined c d v s = respond .full [] (recordChannel .queueFull c v s) := by
  simp only [queueWriteExamined, examine_meetsFull h ha hfull]

theorem queueWriteExamined_refused (h : decodeWrite d.kind v .mgmt = .undefinedData) :
    queueWriteExamined c d v s = respondBadField 2 (recordChannel .badData c v s) := by
  simp only [queueWriteExamined, examine_refused h]

theorem queueWriteExamined_aborted (h : decodeWrite d.kind v .mgmt = .abort) :
    queueWriteExamined c d v s = respond .ok [] (arbitrate (reexamine c (abortTrain c d s))) := by
  simp only [queueWriteExamined, examine_aborted h]

end

/-- Settles O44: the channel decides first, then the byte by the kind, then absorption and the room. -/
theorem queueWriteActsByItsTable : Obligations.QueueWriteActsByItsTable := by
  intro s c v hs hrun answers appends
  have hexec := exec_queueWrite hs hrun c v
  have hblocked (t : State) (h : (match (s.chan c).desc with
        | none => respond .notConfigured [] (recordChannel .blockedWrite c v s)
        | some d =>
          if (s.chan c).state = .fault then respond .blocked [] (recordChannel .blockedWrite c v s)
          else queueWriteExamined c d v s) = t) : answers t := hexec.trans (congrArg _ h)
  refine ⟨fun hnone => hblocked _ (by rw [hnone]), fun hsome hfault => hblocked _ ?_,
    fun d hd hfault => ?_⟩
  · obtain ⟨d, hd⟩ := Option.isSome_iff_exists.mp hsome
    rw [hd]
    exact if_pos hfault
  have hexamined (t : State) (h : queueWriteExamined c d v s = t) : answers t :=
    hblocked t (by rw [hd]; exact (if_neg hfault).trans h)
  have happends {k : EntryKind} {o : Byte}
      (h : decodeWrite d.kind v .mgmt = .entry { kind := k, operand := o, origin := .mgmt })
      (ha : absorbs d.kind (s.chan c) v = false) : appends k o :=
    ⟨fun hroom => hexamined _ (queueWriteExamined_appended h ha hroom),
      fun hfull => hexamined _ (queueWriteExamined_full h ha hfull)⟩
  refine ⟨fun hkind => ⟨fun ha => ?_, fun htail hempty => ?_⟩,
    fun hkind => ⟨fun hv => ?_, fun hv => ?_, fun hv => ?_, fun hv => ?_⟩⟩
  · exact hexamined _ (queueWriteExamined_absorbed (decodeWrite_hold hkind v .mgmt)
      ((absorbs_hold_iff hkind).mpr ha))
  · exact happends (decodeWrite_hold hkind v .mgmt) (absorbs_hold_eq_false hkind htail hempty)
  · exact happends ((decodeWrite_train hkind v .mgmt).trans (decodeTrainData_count .mgmt hv))
      (absorbs_train hkind _ v)
  · exact happends ((decodeWrite_train hkind v .mgmt).trans (decodeTrainData_pause .mgmt hv))
      (absorbs_train hkind _ v)
  · exact hexamined _ (queueWriteExamined_refused
      ((decodeWrite_train hkind v .mgmt).trans (decodeTrainData_undefined .mgmt hv)))
  · subst hv
    exact hexamined _ (queueWriteExamined_aborted
      ((decodeWrite_train hkind 0x00 .mgmt).trans (decodeTrainData_abort .mgmt)))

/-! ### PURGE (R31) -/

/-- The state of a purged channel, before a held write is examined again. -/
def purged (c : Chan) (s : State) : State :=
  recordChannel .queuePurged c (BitVec.ofNat 8 (s.chan c).queue.length)
    (s.setChan c { s.chan c with queue := [] })

theorem purged_chan (c : Chan) (s : State) : (purged c s).chan c = { s.chan c with queue := [] } :=
  setChan_chan_self s c _

theorem exec_purge {s : State} (hs : Listening s) (hrun : s.ctl.mode = .run) (c : Chan) :
    exec (.purge [BitVec.ofNat 8 c.val]) s = .next
      (if (s.chan c).desc.isNone then respond .notConfigured [] s
        else respond .ok [] (reexamine c (purged c s))) := by
  obtain ⟨hlive, hphase⟩ := hs
  change execPurge _ s = _
  rw [execPurge, takeRequest_taken hlive hphase List.length_singleton (by simp [takenIn, hrun]),
    withChannel_good (toNat_byteAt_chan c [])]
  rfl

/-- Settles O45: the purged queue has room, so a write held on it is absorbed or appended at once. -/
theorem purgeEmptiesTheQueue : Obligations.PurgeEmptiesTheQueue := by
  intro s c hs hrun purgedState answers
  have hexec := exec_purge hs hrun c
  have hpurge (t : State) (hsome : (s.chan c).desc.isSome = true) (h : reexamine c (purged c s) = t) :
      answers (respond .ok [] t) := by
    refine hexec.trans ?_
    rw [if_neg (by simpa using Option.isSome_iff_ne_none.mp hsome), h]
  refine ⟨fun hnone => hexec.trans (by rw [hnone]; rfl), fun hsome => hpurge _ hsome rfl,
    fun hsome hheld => hpurge _ hsome (reexamine_eq_self (.inr (.inl fun h hh => ?_))), ?_⟩
  · have hh' : s.port.held = some h := hh
    rcases hheld with hnone | ⟨w, hw, hne⟩
    · rw [hnone] at hh'
      cases hh'
    · rw [hw] at hh'
      cases hh'
      exact hne
  · intro d h hd hstalled hheld hc ended
    have hd' : ((purged c s).chan c).desc = some d := by rw [purged_chan]; exact hd
    have hroom : ((purged c s).chan c).queue.length < 8 := by rw [purged_chan]; exact Nat.zero_lt_succ 7
    have hsome : (s.chan c).desc.isSome = true := by rw [hd]; rfl
    have happended {e : Entry} (hdecode : decodeWrite d.kind h.data .host = .entry e)
        (ha : absorbs d.kind ((purged c s).chan c) h.data = false) : ended [e] := by
      refine hpurge _ hsome ?_
      rw [reexamine_appended (s := purged c s) hstalled hheld hc hd' hroom hdecode ha, purged_chan]
      rfl
    refine ⟨fun hkind => ⟨fun hv => ?_, fun hv => ?_⟩, fun hkind => ⟨fun hv => ?_, fun hv => ?_⟩⟩
    · refine hpurge _ hsome ?_
      have hsame : (purged c s).setChan c { s.chan c with queue := [] } = purged c s := by
        rw [← purged_chan, setChan_self]
      have ha : absorbs d.kind ((purged c s).chan c) h.data = true :=
        (absorbs_hold_iff hkind).mpr (.inr (by rw [purged_chan]; exact ⟨rfl, hv⟩))
      rw [reexamine_absorbed (s := purged c s) hstalled hheld hc hd' hroom (decodeWrite_hold hkind _ _) ha]
      exact congrArg (fun t : State => { t with port := endedPort s.port .normal none }) hsame.symm
    · exact happended (decodeWrite_hold hkind _ _) (absorbs_hold_eq_false hkind
        (by rw [purged_chan]; intro e he; cases he) (fun _ => by rw [purged_chan]; exact hv))
    · exact happended ((decodeWrite_train hkind _ _).trans (decodeTrainData_count .host hv))
        (absorbs_train hkind _ _)
    · exact happended ((decodeWrite_train hkind _ _).trans (decodeTrainData_pause .host hv))
        (absorbs_train hkind _ _)

end Sys2Proof.Machine
end

section
/-! Host cycles that no queue sees (R108 to R114, R124, R125), which O46 and O47 are about. -/

namespace Sys2Proof.Machine

/-! ### Arrivals and the end of the strobes (R108, R112, R124, R125) -/

theorem passArrives_eq (a : Addr) (data : Option Byte) (s : State) :
    passArrives a data s = arbitrate
      { s with
        port :=
          { state := .passWait
            cycle := some
              { kind := if data = none then .read else .write, address := a, data := data
                decode := some
                  (if data ≠ none ∧ a = s.ctl.heartbeatAddress then .passHeartbeat else .pass)
                ending := none, answer := none }
            stallTimer := none, held := none, released := false } } := by
  cases data <;> simp [passArrives, passStrobes, HostStrobes.kind, passDecode, arrive, HostPort.idle]

theorem exec_invalidCycle {s : State} (a : Addr) (hs : CycleCanArrive s) :
    exec (.invalidCycle a) s =
      .next { s with port := answeredPort .invalid a none none .error none } := by
  change execInvalidCycle a s = _
  rw [execInvalidCycle, onArrival_taken hs, invalidArrives, answerHost_held rfl]
  rfl

theorem exec_hostCycleInReset {s : State} (kind : CycleKind) (a : Addr) (v : Byte)
    (hclk : s.pins.clkRunning = true) (hreset : s.heldInReset = true) (hidle : s.port.state = .idle) :
    exec (.hostCycleInReset kind a v) s = .next
      { s with
        port := answeredPort kind a (if kind = .write then some v else none) none .normal
          (if kind = .read then some 0xFF else none) } := by
  have hportIdle : s.portIdle = true := by simp [State.portIdle, hidle]
  change execHostCycleInReset kind a v s = _
  simp only [execHostCycleInReset, State.onArrival, hreset, hclk, hportIdle, Bool.not_true, Bool.false_eq_true,
    if_false, if_true, arrivesInReset_eq]
  cases kind <;> rfl

theorem strobesReleased_of_waiting {s : State}
    (h : s.port.state = .passWait ∨ s.port.state = .passOn ∨ s.port.state = .stalled) :
    strobesReleased s = { s with port := { s.port with released := true } } := by
  rcases h with h | h | h <;> simp [strobesReleased, h]

/-- Settles O46: each arrival finds its port, and the end of the strobes acts by the port's state. -/
theorem hostCyclesArriveAndEnd : Obligations.HostCyclesArriveAndEnd := by
  refine ⟨fun s a hs => ⟨fun hnone data => ?_, exec_invalidCycle a hs⟩,
    fun s kind a v hclk hreset hidle => ⟨_, exec_hostCycleInReset kind a v hclk hreset hidle, rfl, rfl, rfl, rfl⟩,
    fun s hclk => ⟨fun h => ?_, fun h => ?_⟩⟩
  · rw [exec_passThroughArrival data hs hnone, passArrives_eq]
  · rw [exec_hostCycleEnd hclk, strobesReleased_of_ending h]
  · rw [exec_hostCycleEnd hclk, strobesReleased_of_waiting h]

/-! ### The end of a pass-through cycle (R112 to R114, R151) -/

theorem startTimer_toNat (h : Half) :
    startTimer h.toNat = if h = 0 then none else some (h.toNat + 1) := by
  simp only [startTimer, half_eq_zero_iff]

theorem reportHeartbeat_eq (s : State) :
    reportHeartbeat s =
      { s with
        ctl :=
          if s.ctl.mode = .run ∧ s.ctl.heartbeat ≠ none then
            { s.ctl with
              heartbeat :=
                if s.ctl.heartbeatTimeout = 0 then none
                else some (s.ctl.heartbeatTimeout.toNat + 1) }
          else s.ctl } := by
  simp only [reportHeartbeat, startTimer_toNat, Option.isSome_iff_ne_none]
  split <;> rfl

section
variable {s : State} {k : HostCycle} (hlive : s.live = true) (hbus : s.down.bus = .pass)
  (hport : s.port.state = .passOn) (hk : s.port.cycle = some k)
include hlive hbus hport hk

theorem exec_passThroughCompletion (dd : Byte) :
    exec (.passThroughCompletion dd) s = .next (endPass
      (if k.decode = some .passHeartbeat then
        reportHeartbeat (answerHost .normal (if k.kind = .read then some dd else none) (freeBus s))
      else answerHost .normal (if k.kind = .read then some dd else none) (freeBus s))) := by
  change execPassThroughCompletion dd s = _
  simp only [execPassThroughCompletion, hk]
  rw [onEvent_taken hlive (by simp [hbus, hport])]

theorem exec_passTimeout :
    exec .passTimeout s = .next (endPass (record .passTimeout none none (some k.address) none
      (answerHost .error (if k.kind = .read then some 0xFF else none) (freeBus s)))) := by
  change execPassTimeout s = _
  simp only [execPassTimeout, hk]
  rw [onEvent_taken hlive (by simp [hbus, hport])]
  rfl

end

/-- The port of a cycle that has ended is in ENDING or IDLE. -/
theorem endedPort_state (p : HostPort) (e : EndKind) (a : Option Byte) :
    (endedPort p e a).state = .ending ∨ (endedPort p e a).state = .idle := by
  unfold endedPort
  split
  · exact .inr rfl
  · exact .inl rfl

/-- The end of a pass-through cycle: the arbiter's choice, or the acceptance held back behind it. -/
theorem endPass_outcome {s u : State} (hlive : u.live = true) (hended : u.port.state = .ending ∨ u.port.state = .idle)
    (hpending : u.mgmt.pendingSet = s.mgmt.pendingSet) :
    (s.mgmt.pendingSet = none → endPass u = arbitrate u) ∧
    (s.mgmt.pendingSet ≠ none →
      Host.Outcome.next (φ := Fault) (ρ := Refusal) (endPass u) = exec .heldSetChannelAccept u) := by
  refine ⟨fun hnone => ?_, fun hsome => ?_⟩
  · simp only [endPass, acceptHeld, hpending.trans hnone]
  · obtain ⟨q, hq⟩ := Option.ne_none_iff_exists'.mp hsome
    have hfree : passInProgressTo q.descriptor.target u = false := by
      rcases hended with h | h <;> simp [passInProgressTo, h]
    rw [exec_heldSetChannelAccept_free hlive (hpending.trans hq) hfree]
    rfl

/-- Settles O47: completion and timeout answer the host and free the bus, and end at the table and the
arbiter in the same way. -/
theorem passThroughCycleEnds : Obligations.PassThroughCycleEnds := by
  refine ⟨?_, ?_⟩
  · intro s k dd hlive hbus hport hk u
    have hu : (if k.decode = some .passHeartbeat then
          reportHeartbeat (answerHost .normal (if k.kind = .read then some dd else none) (freeBus s))
        else answerHost .normal (if k.kind = .read then some dd else none) (freeBus s)) = u := by
      rw [answerHost_eq, reportHeartbeat_eq]
      by_cases hd : k.decode = some .passHeartbeat
      · simp only [hd, if_true, u, freeBus, freedBus, true_and]
        rfl
      · simp only [hd, if_false, u, freeBus, freedBus, false_and]
    obtain ⟨hnone, hsome⟩ := endPass_outcome (s := s) (u := u) hlive (endedPort_state _ _ _) rfl
    have hexec := exec_passThroughCompletion hlive hbus hport hk dd
    rw [hu] at hexec
    exact ⟨fun h => hexec.trans (congrArg _ (hnone h)), fun h => hexec.trans (hsome h)⟩
  · intro s k hlive hbus hport hk u
    have hu : record .passTimeout none none (some k.address) none
        (answerHost .error (if k.kind = .read then some 0xFF else none) (freeBus s)) = u := by
      rw [answerHost_eq]
      rfl
    obtain ⟨hnone, hsome⟩ := endPass_outcome (s := s) (u := u) hlive (endedPort_state _ _ _) rfl
    have hexec := exec_passTimeout hlive hbus hport hk
    rw [hu] at hexec
    exact ⟨fun h => hexec.trans (congrArg _ (hnone h)), fun h => hexec.trans (hsome h)⟩

end Sys2Proof.Machine
end

section
/-! The mode controller: transitions begun, left and completed (R142 to R152), which O29 to O31 are about. -/

namespace Sys2Proof.Machine

/-! ### Channels changed all together -/

theorem mapChans_eq_self {f : Channel → Channel} {s : State} (h : ∀ c, f (s.chan c) = s.chan c) :
    mapChans f s = s := by
  have hchannels : (mapChans f s).channels = s.channels := chan_ext fun c => by rw [mapChans_chan, h c]
  exact congrArg (fun v => { s with channels := v }) hchannels

theorem leaveCadence_eq (st : ChanState) (target : Byte) (x : Channel) :
    x.leaveCadence st target = outOfCadence st target x := rfl

theorem unhealthy_iff {s : State} :
    ¬ HasHealthyChannel s ↔ ∀ c : Chan, (s.chan c).desc = none ∨ (s.chan c).state = .fault := by
  simp only [HasHealthyChannel, not_exists, not_and, not_not, Option.isSome_iff_ne_none]
  exact forall_congr' fun c => (Decidable.or_iff_not_imp_left).symm

section
variable {x : Channel} {d : Descriptor}

theorem enterRun_healthy (hd : x.desc = some d) (hfault : x.state ≠ .fault) :
    x.enterRun = { outOfCadence .resting d.rest x with queue := [] } := by
  simp [Channel.enterRun, hd, hfault, leaveCadence_eq]

theorem enterRun_other (h : x.desc = none ∨ x.state = .fault) : x.enterRun = x := by
  unfold Channel.enterRun
  rcases h with h | h
  · simp [h]
  · split <;> simp [h]

theorem enterConfig_fault (hd : x.desc = some d) (hfault : x.state = .fault) :
    x.enterConfig = { outOfCadence .safed d.safe x with stuckReported := false } := by
  simp [Channel.enterConfig, hd, hfault, leaveCadence_eq]

theorem enterConfig_other (h : x.desc = none ∨ x.state ≠ .fault) : x.enterConfig = x := by
  unfold Channel.enterConfig
  rcases h with h | h
  · simp [h]
  · split <;> simp [h]

theorem leaveRun_healthy (hd : x.desc = some d) (hfault : x.state ≠ .fault) :
    x.leaveRun = { outOfCadence .safed d.safe x with queue := [] } := by
  simp [Channel.leaveRun, hd, hfault, leaveCadence_eq]

theorem leaveRun_other (h : x.desc = none ∨ x.state = .fault) : x.leaveRun = { x with queue := [] } := by
  unfold Channel.leaveRun
  rcases h with h | h
  · simp [h]
  · split <;> simp [h]

end

section
variable {s : State} {c : Chan} {d : Descriptor} {value : Descriptor → Byte}

theorem requestTransitionDrives_healthy (hd : (s.chan c).desc = some d) (hfault : (s.chan c).state ≠ .fault) :
    (requestTransitionDrives value s).chan c =
      { s.chan c with slot := some (value d), transitionMark := true } := by
  simp [requestTransitionDrives_chan, hd, hfault]

theorem requestTransitionDrives_other (h : (s.chan c).desc = none ∨ (s.chan c).state = .fault) :
    (requestTransitionDrives value s).chan c = s.chan c := by
  rw [requestTransitionDrives_chan]
  rcases h with h | h
  · simp [h]
  · split <;> simp [h]

/-- With no healthy channel there is no drive to request. -/
theorem requestTransitionDrives_eq_self (h : ¬ HasHealthyChannel s) : requestTransitionDrives value s = s :=
  mapChans_eq_self fun c => by
    have := requestTransitionDrives_other (value := value) (unhealthy_iff.mp h c)
    rwa [requestTransitionDrives, mapChans_chan] at this

/-- A drive to wait for keeps the transition from completing (R142). -/
theorem transitionReport_requested (h : HasHealthyChannel s) :
    transitionReport (requestTransitionDrives value s) = requestTransitionDrives value s := by
  obtain ⟨c, hsome, hfault⟩ := h
  obtain ⟨d, hd⟩ := Option.isSome_iff_exists.mp hsome
  exact transitionReport_marked (c := c) (by rw [requestTransitionDrives_healthy hd hfault])

end

/-! ### The completions (R144, R149, R150) -/

section
variable {s : State} (hmarks : ∀ c : Chan, (s.chan c).transitionMark = false)
include hmarks

theorem transitionReport_enteringRun (hmode : s.ctl.mode = .enteringRun) :
    transitionReport s = completeRun s := by
  simp [transitionReport, (noMarks_iff s).mpr hmarks, hmode]

theorem transitionReport_enteringSafe (hmode : s.ctl.mode = .enteringSafe) :
    transitionReport s = completeSafe s := by
  simp [transitionReport, (noMarks_iff s).mpr hmarks, hmode]

theorem transitionReport_enteringConfig (hmode : s.ctl.mode = .enteringConfig) :
    transitionReport s = completeConfig s := by
  simp [transitionReport, (noMarks_iff s).mpr hmarks, hmode]

theorem exec_enteringSafeComplete (hlive : s.live = true) (hmode : s.ctl.mode = .enteringSafe) :
    exec .enteringSafeComplete s = .next (completeSafe s) := by
  change execEnteringSafeComplete s = _
  rw [execEnteringSafeComplete, onEvent_taken hlive (by simp [hmode, (noMarks_iff s).mpr hmarks])]

theorem exec_enteringConfigComplete (hlive : s.live = true) (hmode : s.ctl.mode = .enteringConfig) :
    exec .enteringConfigComplete s = .next (completeConfig s) := by
  change execEnteringConfigComplete s = _
  rw [execEnteringConfigComplete, onEvent_taken hlive (by simp [hmode, (noMarks_iff s).mpr hmarks])]

end

/-- The mode controller in RUN, with the heartbeat started (R144, R151). -/
def runControl (m : ModeControl) : ModeControl :=
  { m with
    mode := .run
    heartbeat := if m.heartbeatTimeout = 0 then none else some (m.heartbeatTimeout.toNat + 1) }

/-- The state that an entry to RUN leaves, before its record. -/
def runReached (s : State) : State :=
  { s with channels := (mapChans Channel.enterRun s).channels, ctl := runControl s.ctl }

theorem runReached_chan (s : State) (c : Chan) : (runReached s).chan c = (s.chan c).enterRun :=
  mapChans_chan s c Channel.enterRun

theorem completeRun_eq (s : State) :
    completeRun s = record .modeChanged none (some 2) none none (runReached s) := by
  simp only [completeRun, startTimer_toNat]
  rfl

theorem completeRun_unhealthy {s : State} (h : ¬ HasHealthyChannel s) :
    completeRun s = record .modeChanged none (some 2) none none { s with ctl := runControl s.ctl } := by
  rw [completeRun_eq, runReached, mapChans_eq_self fun c => enterRun_other (unhealthy_iff.mp h c)]

theorem completeSafe_eq (s : State) :
    completeSafe s =
      record .modeChanged none (some 4) none s.ctl.lastSafeCause
        { s with ctl := { s.ctl with mode := .safe } } := rfl

theorem reachedConfig_completeConfig (s : State) : ReachedConfig s (completeConfig s) := by
  refine ⟨mapChans Channel.enterConfig (setMode .config s), rfl, rfl, fun c => ⟨fun d hd hfault => ?_, fun h => ?_⟩⟩
  · rw [mapChans_chan]
    exact enterConfig_fault hd hfault
  · rw [mapChans_chan]
    exact enterConfig_other h

/-! ### START and RESUME (R143, R145) -/

theorem exec_start {s : State} (hs : Listening s) (hmode : s.ctl.mode = .config) :
    exec (.start []) s = .next
      (if s.pins.safeHigh then respond .accepted [] (arbitrate (beginRun s)) else respond .safeLine [] s) := by
  obtain ⟨hlive, hphase⟩ := hs
  change execStart [] s = _
  rw [execStart, takeRequest_taken hlive hphase List.length_nil (by simp [takenIn, hmode])]

theorem exec_resume {s : State} (hs : Listening s) (hmode : s.ctl.mode = .safe) :
    exec (.resume []) s = .next
      (if s.pins.safeHigh then respond .accepted [] (arbitrate (beginRun s)) else respond .safeLine [] s) := by
  obtain ⟨hlive, hphase⟩ := hs
  change execResume [] s = _
  rw [execResume, takeRequest_taken hlive hphase List.length_nil (by simp [takenIn, hmode])]

theorem beginRun_healthy {s : State} (h : HasHealthyChannel s) :
    beginRun s = requestTransitionDrives (·.rest) { s with ctl := { s.ctl with mode := .enteringRun } } :=
  transitionReport_requested (s := setMode .enteringRun s) h

theorem beginRun_unhealthy {s : State} (h : ¬ HasHealthyChannel s)
    (hmarks : ∀ c : Chan, (s.chan c).transitionMark = false) :
    beginRun s = record .modeChanged none (some 2) none none { s with ctl := runControl s.ctl } := by
  have hsame : ¬ HasHealthyChannel (setMode .enteringRun s) := h
  rw [beginRun, requestTransitionDrives_eq_self hsame,
    transitionReport_enteringRun (s := setMode .enteringRun s) hmarks rfl, completeRun_unhealthy hsame]
  rfl

/-- Settles O29: SAFE# decides first, then whether a channel gives a drive to wait for. -/
theorem startAndResumeBeginRun : Obligations.StartAndResumeBeginRun := by
  refine ⟨fun s value => ⟨rfl, fun c => ⟨fun d => requestTransitionDrives_healthy,
    requestTransitionDrives_other⟩⟩, fun s i hs hi => ?_⟩
  have hexec : exec i s = .next
      (if s.pins.safeHigh then respond .accepted [] (arbitrate (beginRun s)) else respond .safeLine [] s) := by
    rcases hi with ⟨rfl, hmode⟩ | ⟨rfl, hmode⟩
    · exact exec_start hs hmode
    · exact exec_resume hs hmode
  refine ⟨fun hlow => ?_, fun hhigh hhealthy => ?_, fun hhigh hnone hmarks => ?_⟩
  · rw [hexec, if_neg (by simp [hlow])]
  · rw [hexec, if_pos hhigh, beginRun_healthy hhealthy]
  · rw [hexec, if_pos hhigh, beginRun_unhealthy hnone hmarks]
    rfl

/-! ### The mode leaves RUN (R146) -/

section
variable {next : Mode} {s : State} {c : Chan}

theorem clearRun_chan (next : Mode) (s : State) (c : Chan) :
    (clearRun next s).chan c =
      match (s.chan c).desc with
      | some d =>
        if (s.chan c).state = .fault then { s.chan c with queue := [] }
        else
          { outOfCadence .safed d.safe (s.chan c) with
            queue := [], slot := some d.safe, transitionMark := true }
      | none => { s.chan c with queue := [] } := by
  have hchan : (setHeartbeat none (clearGroups (mapChans Channel.leaveRun (setMode next s)))).chan c =
      (s.chan c).leaveRun := by
    rw [setHeartbeat_chan, clearGroups_chan, mapChans_chan, setMode_chan]
  cases hd : (s.chan c).desc with
  | none =>
    have hleft := leaveRun_other (x := s.chan c) (.inl hd)
    rw [clearRun, requestTransitionDrives_other (by rw [hchan, hleft]; exact .inl hd), hchan, hleft]
  | some d =>
    by_cases hfault : (s.chan c).state = .fault
    · have hleft := leaveRun_other (x := s.chan c) (.inr hfault)
      rw [clearRun, requestTransitionDrives_other (by rw [hchan, hleft]; exact .inr hfault), hchan, hleft]
      simp only [hfault, if_true]
    · have hleft := leaveRun_healthy hd hfault
      have hdesc : ((setHeartbeat none (clearGroups (mapChans Channel.leaveRun (setMode next s)))).chan c).desc =
          some d := by rw [hchan, hleft]; exact hd
      have hstate : ((setHeartbeat none (clearGroups (mapChans Channel.leaveRun (setMode next s)))).chan c).state ≠
          .fault := by rw [hchan, hleft]; exact fun h => nomatch h
      rw [clearRun, requestTransitionDrives_healthy hdesc hstate, hchan, hleft]
      simp only [hfault, if_false]

theorem giveUpStall_chan (f : Chan → Bool) (s : State) (c : Chan) : (giveUpStall f s).chan c = s.chan c := by
  rcases giveUpStall_cases f s with h | ⟨h, -, -, -, heq⟩
  · rw [h]
  · rw [heq, answerHost_frame]
    rfl

/-- A stall that stands is given up when the predicate names its channel (R122). -/
theorem giveUpStall_held {f : Chan → Bool} {h : HeldWrite} (hstalled : s.port.state = .stalled)
    (hheld : s.port.held = some h) (hf : f h.channel = true) :
    giveUpStall f s =
      { recordChannel .blockedWrite h.channel h.data s with port := endedPort s.port .normal none } := by
  simp only [giveUpStall, hheld, hstalled, hf, and_self, if_true, answerHost_eq]
  rfl

theorem giveUpStall_eq_self {f : Chan → Bool}
    (h : s.port.state ≠ .stalled ∨ ∀ h, s.port.held = some h → f h.channel = false) : giveUpStall f s = s := by
  rcases giveUpStall_cases f s with heq | ⟨w, hheld, hstalled, hf, -⟩
  · exact heq
  · rcases h with h | h
    · exact absurd hstalled h
    · simp [h w hheld] at hf

/-- The mode controller with its last safe cause written. -/
def withCause (cause : Option SafeCause) (s : State) : State :=
  { s with ctl := { s.ctl with lastSafeCause := cause } }

/-- The table of R146, with the last safe cause it leaves. -/
theorem leftRun_clearRun (next : Mode) (cause : Option SafeCause) (s : State) :
    LeftRun next cause s
      (clearRun next (giveUpStall (fun _ => true) (withCause cause s))) := by
  have hcalm := (local_giveUpStall 0 (fun _ => true)
    (withCause cause s)).toCalm
  have hdown : (giveUpStall (fun _ => true)
      (withCause cause s)).down = s.down :=
    (local_giveUpStall 0 (fun _ => true) (withCause cause s)).down
  refine ⟨?_, fun g => ?_, ?_, ?_, ?_, ?_, fun c d hd hfault => ?_, fun c h => ?_, fun h => ?_,
    fun h hstalled hheld => ?_⟩
  · simp only [clearRun, requestTransitionDrives_ctl, setHeartbeat_ctl, clearGroups_ctl, mapChans_ctl,
      setMode_ctl, hcalm.ctl]
    rfl
  · simp only [clearRun, requestTransitionDrives_group, setHeartbeat_group, clearGroups_group]
    rfl
  · simp only [clearRun, requestTransitionDrives_down, setHeartbeat_down, clearGroups_down, mapChans_down,
      setMode_down, hdown]
  · simp only [clearRun, requestTransitionDrives_mgmt, setHeartbeat_mgmt, clearGroups_mgmt, mapChans_mgmt,
      setMode_mgmt, hcalm.mgmt]
    rfl
  · simp only [clearRun, requestTransitionDrives_pins, setHeartbeat_pins, clearGroups_pins, mapChans_pins,
      setMode_pins, hcalm.pins]
    rfl
  · simp only [clearRun, requestTransitionDrives_pending, setHeartbeat_pending, clearGroups_pending,
      mapChans_pending, setMode_pending, hcalm.pending]
    rfl
  · have hchan : ((withCause cause s).chan c) = s.chan c := rfl
    rw [clearRun_chan, giveUpStall_chan, hchan, hd]
    exact if_neg hfault
  · have hchan : ((withCause cause s).chan c) = s.chan c := rfl
    rw [clearRun_chan, giveUpStall_chan, hchan]
    rcases h with h | h
    · rw [h]
    · split
      · exact if_pos h
      · rfl
  · rw [giveUpStall_eq_self (s := withCause cause s) (h.imp_right fun hnone w hw => ?_)]
    · simp [clearRun, withCause]
    · rw [show s.port.held = some w from hw] at hnone
      cases hnone
  · rw [giveUpStall_held (s := withCause cause s) hstalled hheld rfl]
    refine ⟨by simp [clearRun, withCause], ?_⟩
    simp only [clearRun, requestTransitionDrives_ev, setHeartbeat_ev, clearGroups_ev, mapChans_ev, setMode_ev]
    rfl

/-- A healthy channel gives the transition a drive to wait for. -/
theorem leaveRun_eq_clearRun (h : HasHealthyChannel s) :
    leaveRun next s = clearRun next (giveUpStall (fun _ => true) s) := by
  obtain ⟨c, hsome, hfault⟩ := h
  obtain ⟨d, hd⟩ := Option.isSome_iff_exists.mp hsome
  rw [leaveRun_eq]
  refine transitionReport_marked (c := c) ?_
  rw [clearRun_chan, giveUpStall_chan, hd]
  simp [hfault]

theorem noMarks_clearRun (h : ¬ HasHealthyChannel s)
    (hmarks : ∀ c : Chan, (s.chan c).transitionMark = false) (c : Chan) :
    ((clearRun next (giveUpStall (fun _ => true) s)).chan c).transitionMark = false := by
  rw [clearRun_chan, giveUpStall_chan]
  rcases unhealthy_iff.mp h c with hnone | hfault
  · rw [hnone]
    exact hmarks c
  · split
    · rw [if_pos hfault]
      exact hmarks c
    · exact hmarks c

theorem clearRun_mode (next : Mode) (s : State) : (clearRun next s).ctl.mode = next := by
  simp [clearRun]

end

/-- Without a drive to wait for, SAFE is reached in the event that leaves RUN, by its cause. -/
theorem leaveRunToSafe_unhealthy {cause : SafeCause} {s : State} (h : ¬ HasHealthyChannel s)
    (hmarks : ∀ c : Chan, (s.chan c).transitionMark = false) :
    ∃ v, LeftRun .enteringSafe (some cause) s v ∧
      leaveRunToSafe cause s = record .modeChanged none (some 4) none (some cause)
        { v with ctl := { v.ctl with mode := .safe } } := by
  have hleft := leftRun_clearRun .enteringSafe (some cause) s
  obtain ⟨hctl, -⟩ := id hleft
  have hmode := clearRun_mode .enteringSafe (giveUpStall (fun _ => true) (setSafeCause cause s))
  have hcause : (clearRun .enteringSafe (giveUpStall (fun _ => true)
      (setSafeCause cause s))).ctl.lastSafeCause = some cause := congrArg ModeControl.lastSafeCause hctl
  refine ⟨_, hleft, ?_⟩
  rw [leaveRunToSafe, leaveRun_eq,
    transitionReport_enteringSafe (noMarks_clearRun (s := setSafeCause cause s) h hmarks) hmode,
    completeSafe_eq, hcause]
  rfl

/-- With a drive to wait for, the mode is ENTERING_SAFE. -/
theorem leaveRunToSafe_healthy {cause : SafeCause} {s : State} (h : HasHealthyChannel s) :
    LeftRun .enteringSafe (some cause) s (leaveRunToSafe cause s) := by
  rw [leaveRunToSafe, leaveRun_eq_clearRun (s := setSafeCause cause s) h]
  exact leftRun_clearRun .enteringSafe (some cause) s

theorem leaveRun_config_healthy {s : State} (h : HasHealthyChannel s) :
    LeftRun .enteringConfig s.ctl.lastSafeCause s (leaveRun .enteringConfig s) := by
  rw [leaveRun_eq_clearRun h]
  exact leftRun_clearRun .enteringConfig s.ctl.lastSafeCause s

/-! ### The events that leave RUN (R147, R148, R150, R152) -/

theorem exec_stop_run {s : State} (hs : Listening s) (hmode : s.ctl.mode = .run) :
    exec (.stop []) s = .next (respond .accepted [] (arbitrate (leaveRun .enteringConfig s))) := by
  obtain ⟨hlive, hphase⟩ := hs
  change execStop [] s = _
  rw [execStop, takeRequest_taken hlive hphase List.length_nil (by simp [takenIn, hmode]), if_pos hmode]

theorem exec_stop_safe {s : State} (hs : Listening s) (hmode : s.ctl.mode = .safe) :
    exec (.stop []) s = .next (respond .ok [] (completeConfig s)) := by
  obtain ⟨hlive, hphase⟩ := hs
  change execStop [] s = _
  rw [execStop, takeRequest_taken hlive hphase List.length_nil (by simp [takenIn, hmode]),
    if_neg (by simp [hmode])]

theorem exec_enterSafe_run {s : State} (hs : Listening s) (hmode : s.ctl.mode = .run) :
    exec (.enterSafe []) s = .next (respond .accepted [] (arbitrate (leaveRunToSafe .command s))) := by
  obtain ⟨hlive, hphase⟩ := hs
  change execEnterSafe [] s = _
  rw [execEnterSafe, takeRequest_taken hlive hphase List.length_nil (by simp [takenIn, hmode]), if_pos hmode]

theorem exec_heartbeatExpiry {s : State} (hlive : s.live = true) (hmode : s.ctl.mode = .run)
    (hdue : s.ctl.heartbeat = some 0) :
    exec .heartbeatExpiry s =
      .next (arbitrate (leaveRunToSafe .heartbeat (record .heartbeatLost none none none none s))) := by
  change execHeartbeatExpiry s = _
  rw [execHeartbeatExpiry, heartbeatExpires, onEvent_taken hlive (by simp [hmode, isDue, hdue])]

theorem exec_safeLineFall_run {s : State} (hlive : s.live = true) (hhigh : s.pins.safeHigh = true)
    (hmode : s.ctl.mode = .run) :
    exec .safeLineFall s = .next (arbitrate (leaveRunToSafe .safeLine
      { s with pins := { s.pins with safeHigh := false } })) := by
  have hmode' : (setSafePin false s).ctl.mode = .run := hmode
  rw [exec_safeLineFall hlive hhigh, actOnSafeLow, hmode']
  rfl

/-- SAFE# falls in ENTERING_RUN: the transition turns to SAFE (R148). -/
def turnedToSafe (s : State) : State :=
  { s with
    ctl := { s.ctl with mode := .enteringSafe, lastSafeCause := some .safeLine }
    pins := { s.pins with safeHigh := false } }

theorem exec_safeLineFall_enteringRun {s : State} (hlive : s.live = true) (hhigh : s.pins.safeHigh = true)
    (hmode : s.ctl.mode = .enteringRun) :
    exec .safeLineFall s =
      .next (arbitrate (transitionReport (requestTransitionDrives (·.safe) (turnedToSafe s)))) := by
  have hmode' : (setSafePin false s).ctl.mode = .enteringRun := hmode
  rw [exec_safeLineFall hlive hhigh, actOnSafeLow, hmode']
  rfl

theorem exec_safeLineFall_other {s : State} (hlive : s.live = true) (hhigh : s.pins.safeHigh = true)
    (hrun : s.ctl.mode ≠ .run) (hentering : s.ctl.mode ≠ .enteringRun) :
    exec .safeLineFall s = .next (arbitrate { s with pins := { s.pins with safeHigh := false } }) := by
  have hsame : actOnSafeLow (setSafePin false s) = setSafePin false s := by
    unfold actOnSafeLow
    split
    · exact absurd ‹_› hrun
    · exact absurd ‹_› hentering
    all_goals rfl
  rw [exec_safeLineFall hlive hhigh, hsame]
  rfl

theorem exec_safeLineFall_pin {s : State} (h : s.live = false ∨ s.pins.safeHigh = false) :
    exec .safeLineFall s = .next { s with pins := { s.pins with safeHigh := false } } := by
  change execSafeLineFall s = _
  rcases h with h | h <;> simp [execSafeLineFall, h, setSafePin]

/-- Settles O30: the four causes leave RUN by one table; a healthy channel decides whether the transition ends
in the same event. -/
theorem modeLeavesRun : Obligations.ModeLeavesRun := by
  refine ⟨fun s hlive hmode hhealthy => ⟨fun hphase => ⟨?_, ?_⟩, fun hhigh => ?_, fun hdue => ?_⟩, ?_, ?_⟩
  · exact ⟨_, leaveRun_config_healthy hhealthy, exec_stop_run ⟨hlive, hphase⟩ hmode⟩
  · exact ⟨_, leaveRunToSafe_healthy hhealthy, exec_enterSafe_run ⟨hlive, hphase⟩ hmode⟩
  · exact ⟨_, leaveRunToSafe_healthy hhealthy, exec_safeLineFall_run hlive hhigh hmode⟩
  · exact ⟨_, leaveRunToSafe_healthy hhealthy, exec_heartbeatExpiry hlive hmode hdue⟩
  · intro s hlive hmode hunhealthy hmarks reached
    have hreached (cause : SafeCause) (w : State) (hw : ¬ HasHealthyChannel w)
        (hmarks : ∀ c : Chan, (w.chan c).transitionMark = false) : reached cause w (leaveRunToSafe cause w) :=
      leaveRunToSafe_unhealthy hw hmarks
    exact ⟨fun hhigh => ⟨_, hreached _ _ hunhealthy hmarks, exec_safeLineFall_run hlive hhigh hmode⟩,
      fun hdue => ⟨_, hreached _ _ hunhealthy hmarks, exec_heartbeatExpiry hlive hmode hdue⟩⟩
  · refine fun s => ⟨?_, exec_safeLineFall_other, exec_safeLineFall_pin, rfl⟩
    intro hlive hhigh hmode u
    have hexec := exec_safeLineFall_enteringRun hlive hhigh hmode
    refine ⟨fun hhealthy => ?_, fun hunhealthy hmarked => ?_, fun hunhealthy hmarks => ?_⟩
    · rw [hexec, transitionReport_requested (s := turnedToSafe s) hhealthy]
      rfl
    all_goals rw [hexec, requestTransitionDrives_eq_self (s := turnedToSafe s) hunhealthy]
    · obtain ⟨c, hc⟩ := hmarked
      rw [transitionReport_marked (s := turnedToSafe s) (c := c) hc]
      rfl
    · rw [transitionReport_enteringSafe (s := turnedToSafe s) hmarks rfl]
      rfl

/-- Settles O31: the completions by their modes, and the two that pass through a transition in one event. -/
theorem transitionsComplete : Obligations.TransitionsComplete := by
  refine ⟨fun s hlive hmarks => ⟨fun hmode => ?_, fun hmode => ?_, fun hmode => ?_, fun hmode hphase => ?_⟩,
    fun s hs hmode hunhealthy hmarks => ⟨?_, ?_⟩⟩
  · refine ⟨runReached s, by rw [exec_enteringRunComplete hlive hmode hmarks, completeRun_eq], rfl, fun c => ?_⟩
    rw [runReached_chan]
    exact ⟨fun d hd hfault => enterRun_healthy hd hfault, enterRun_other⟩
  · rw [exec_enteringSafeComplete hmarks hlive hmode, completeSafe_eq]
  · exact ⟨_, exec_enteringConfigComplete hmarks hlive hmode, reachedConfig_completeConfig s⟩
  · exact ⟨_, exec_stop_safe ⟨hlive, hphase⟩ hmode, reachedConfig_completeConfig s⟩
  · obtain ⟨v, hleft, heq⟩ := leaveRunToSafe_unhealthy (cause := .command) hunhealthy hmarks
    exact ⟨v, hleft, by rw [exec_enterSafe_run hs hmode, heq]⟩
  · have hreport : leaveRun .enteringConfig s =
        completeConfig (clearRun .enteringConfig (giveUpStall (fun _ => true) s)) := by
      rw [leaveRun_eq, transitionReport_enteringConfig (noMarks_clearRun hunhealthy hmarks) (clearRun_mode _ _)]
    have hleft : LeftRun .enteringConfig s.ctl.lastSafeCause s
        (clearRun .enteringConfig (giveUpStall (fun _ => true) s)) := leftRun_clearRun _ _ s
    exact ⟨_, _, hleft, reachedConfig_completeConfig _,
      by rw [exec_stop_run hs hmode, hreport]⟩

end Sys2Proof.Machine
end

section
/-! The feedback supervisor (chapter 8), the entry to FAULT and its end, which O57 to O60 are about. -/

namespace Sys2Proof.Machine

/-! ### The comparison (R126 to R130) -/

theorem fullTimer_eq (d : Nat) : fullTimer d = startTimer d := rfl

theorem expectedLevel_eq (f : FeedbackPart) (v : Byte) :
    (if f.invert then !v.getLsbD f.senseBit.val else v.getLsbD f.senseBit.val) = expectedLevel f v := by
  unfold expectedLevel
  cases f.invert <;> cases v.getLsbD f.senseBit.val <;> rfl

/-- Settles O57, phase by phase. -/
theorem completionActsOnTheComparison : Obligations.CompletionActsOnTheComparison := by
  intro f v k level settling
  have hlevel : level = expectedLevel f v := expectedLevel_eq f v
  have hsettling : settling = .settling f (expectedLevel f v) := by
    rw [← hlevel]
    rfl
  rw [hsettling, hlevel]
  refine ⟨fun h => ?_, fun h hother => ?_, fun h hsame => ?_, fun h hsame => ?_⟩
  · simp [Comparison.completion, h]
  · cases hphase : k.phase
    case unknown => exact absurd hphase h
    all_goals simp [Comparison.completion, hphase, hother]
  · rcases h with h | h | h <;> simp [Comparison.completion, h, hsame]
  · simp [Comparison.completion, h, hsame, Comparison.toFiltering, startTimer, Config.filterTime]

/-- The comparison of a supervised channel changed (R126). -/
theorem modComparison_supervised {s : State} {c : Chan} {d : Descriptor} {fb : FeedbackPart} {k : Comparison}
    {f : FeedbackPart → Comparison → Comparison} (hd : (s.chan c).desc = some d)
    (hfeedback : d.feedback = some fb) (hk : (s.chan c).cmp = some k) :
    modComparison c f s = s.setChan c { s.chan c with cmp := some (f fb k) } := by
  simp [modComparison, modChan, hd, hfeedback, hk]

theorem exec_settleExpiry {s : State} {c : Chan} {k : Comparison} (hlive : s.live = true)
    (hk : (s.chan c).cmp = some k) (hphase : k.phase = .settling) (hdue : k.settle = some 0) :
    exec (.settleExpiry c) s = .next (modComparison c (fun _ k => k.settled (s.senseLevel c)) s) := by
  change execSettleExpiry c s = _
  rw [execSettleExpiry, settleExpires,
    onEvent_taken hlive (by simp [Channel.cmpPhase, hk, hphase, isDue, hdue])]

/-- A level of SENSEn that is no change, or that no comparison looks at, moves the pin alone (R130). -/
theorem exec_senseChange_pin {s : State} {c : Chan} {high : Bool}
    (h : (s.chan c).desc.bind (·.feedback) = none ∨ s.pins.sense[c.val] = high ∨ s.live = false) :
    exec (.senseChange c high) s =
      .next { s with pins := { s.pins with sense := s.pins.sense.set c.val high } } := by
  have hlevel : s.senseLevel c = s.pins.sense[c.val] := rfl
  change execSenseChange c high s = _
  unfold execSenseChange
  dsimp only
  split
  · rename_i htaken
    obtain ⟨hlive, hchange⟩ : s.live = true ∧ s.senseLevel c ≠ high := by simpa using htaken
    rcases h with hunsupervised | hsame | hdead
    · rw [actOnSense, modComparison_unsupervised (by exact hunsupervised)]
    · exact absurd hsame hchange
    · rw [hlive] at hdead
      cases hdead
  · rfl

/-- Settles O58: the settle expiry and the pin move the comparison by its phase. -/
theorem settleAndSenseMoveTheComparison : Obligations.SettleAndSenseMoveTheComparison := by
  refine ⟨fun s c high => exec_senseChange_pin, ?_⟩
  intro s c d f k hlive hd hfeedback hk agreed filtering compared
  refine ⟨fun hphase hdue => ?_, fun high hchange => ?_⟩
  · rw [exec_settleExpiry hlive hk hphase hdue, modComparison_supervised hd hfeedback hk]
    refine ⟨fun h => ?_, fun h => ?_⟩
    · rw [Comparison.settled, if_pos (by exact h)]
      rfl
    · rw [Comparison.settled, if_neg (by exact h)]
      rfl
  · intro moved
    let moving : State := { s with pins := { s.pins with sense := s.pins.sense.set c.val high } }
    have hlevel : moving.senseLevel c = high := by simp [moving, State.senseLevel]
    have hmoved (j : Comparison) (hj : k.sensed high = j) : moved j := by
      have heq := modComparison_supervised (s := moving) (f := fun _ k => k.sensed (moving.senseLevel c))
        hd hfeedback hk
      change exec (.senseChange c high) s = _
      rw [exec_senseChange hlive hchange, actOnSense, heq, hlevel, hj]
      rfl
    refine ⟨fun hphase hother => hmoved _ ?_, fun hphase hsame => hmoved _ ?_, fun hphase => hmoved _ ?_⟩
    · simp only [Comparison.sensed, hphase, hother, if_false]
      rfl
    · rcases hphase with hphase | hphase <;> simp only [Comparison.sensed, hphase, hsame, if_true] <;> rfl
    · rcases hphase with hphase | hphase <;> simp only [Comparison.sensed, hphase]

/-! ### Entering FAULT (R105, R132, R133) -/

theorem releaseToken_eq {c : Chan} {d : Descriptor} {s : State} (hd : (s.chan c).desc = some d) :
    releaseToken c s = tokenGivenUp c d s := by
  cases hg : d.group <;> simp [releaseToken, tokenGivenUp, State.groupOf, hd, hg]

theorem tokenGivenUp_desc {c : Chan} {d : Descriptor} {s : State} (hd : (s.chan c).desc = some d) (k : Chan) :
    ((tokenGivenUp c d s).chan k).desc = (s.chan k).desc := by
  rw [← releaseToken_eq hd]
  exact (local_releaseToken c s).desc k

theorem giveUpStall_channel (c : Chan) (s : State) : giveUpStall (· == c) s = stallGivenUp c s := by
  unfold giveUpStall stallGivenUp
  split
  · rename_i h hheld
    by_cases hc : h.channel = c
    · simp only [hc, beq_self_eq_true, hheld, and_true, answerHost_eq]
      rfl
    · simp [hc, hheld]
  · simp [*]

theorem faulted_eq (c : Chan) (d : Descriptor) (cause : FaultCause) (s : State) :
    requestFaultDrive c d.safe (modChan c (fun x =>
      { x.leaveCadence .fault d.safe with
        lastFault := some { cause, timestamp := s.ctl.timestamp }, stuckReported := false, queue := [] }) s) =
      faulted c d cause s := by
  rw [requestFaultDrive_eq, modChan, setChan_setChan, setChan_chan_self]
  rfl

theorem faulted_desc (c : Chan) (d : Descriptor) (cause : FaultCause) (s : State) (k : Chan) :
    ((faulted c d cause s).chan k).desc = (s.chan k).desc := by
  rw [setChan_chan]
  split
  · rename_i h
    rw [h]
  · rfl

/-- The entry to FAULT, by its parts. -/
theorem faultChannel_eq {c : Chan} {d : Descriptor} {s : State} (hd : (s.chan c).desc = some d)
    (cause : FaultCause) :
    faultChannel c cause s = stallGivenUp c (waiterRemoved c d (tokenGivenUp c d (faulted c d cause s))) := by
  have hfaulted : ((faulted c d cause s).chan c).desc = some d := (faulted_desc c d cause s c).trans hd
  have hgiven : ((tokenGivenUp c d (faulted c d cause s)).chan c).desc = some d :=
    (tokenGivenUp_desc hfaulted c).trans hfaulted
  rw [← giveUpStall_channel, ← withdraw_eq hgiven, ← releaseToken_eq hfaulted, ← faulted_eq, faultChannel, hd]

/-! ### A confirmed mismatch (R131 to R135) -/

theorem exec_filterExpiry {s : State} {c : Chan} {k : Comparison} (hlive : s.live = true)
    (hk : (s.chan c).cmp = some k) (hphase : k.phase = .filtering) (hdue : k.filter = some 0) :
    exec (.filterExpiry c) s = .next (arbitrate (confirmMismatch c s)) := by
  change execFilterExpiry c s = _
  rw [execFilterExpiry, filterExpires,
    onEvent_taken hlive (by simp [Channel.cmpPhase, hk, hphase, isDue, hdue])]

/-- The comparison of `c` confirmed (R131). -/
def mismatchConfirmed (c : Chan) (k : Comparison) (s : State) : State :=
  s.setChan c { s.chan c with cmp := some { k with phase := .confirmed, filter := none } }

section
variable {s : State} {c : Chan} {d : Descriptor} {k : Comparison}
variable (hd : (s.chan c).desc = some d) (hfeedback : d.feedback.isSome = true) (hk : (s.chan c).cmp = some k)
include hd hfeedback hk

theorem modComparison_confirmed :
    modComparison c (fun _ k => { k with phase := .confirmed, filter := none }) s = mismatchConfirmed c k s := by
  obtain ⟨fb, hfb⟩ := Option.isSome_iff_exists.mp hfeedback
  exact modComparison_supervised hd hfb hk

theorem confirmMismatch_fault (hfault : (s.chan c).state = .fault) :
    confirmMismatch c s =
      if (s.chan c).stuckReported then mismatchConfirmed c k s
      else record .feedbackStuck (some c) none none none
        ((mismatchConfirmed c k s).setChan c
          { (mismatchConfirmed c k s).chan c with stuckReported := true }) := by
  have hstuck : ((mismatchConfirmed c k s).chan c).stuckReported = (s.chan c).stuckReported := by
    rw [mismatchConfirmed, setChan_chan_self]
  rw [confirmMismatch, modComparison_confirmed hd hfeedback hk]
  simp only [hfault, if_true, reportStuck, hstuck]
  rfl

theorem confirmMismatch_report {v : Byte} (hv : (s.chan c).driven = some v)
    (hfault : (s.chan c).state ≠ .fault) :
    confirmMismatch c s =
      if s.ctl.mode = .config ∨ s.ctl.mode = .enteringConfig then
        recordChannel .feedbackFault c v (mismatchConfirmed c k s)
      else faultChannel c .feedback (recordChannel .feedbackFault c v (mismatchConfirmed c k s)) := by
  rw [confirmMismatch, modComparison_confirmed hd hfeedback hk]
  simp only [hfault, if_false, hv]
  rfl

end

/-- Settles O59: the state decides the report, and the mode whether the channel enters FAULT. -/
theorem confirmedMismatchActsByModeAndState : Obligations.ConfirmedMismatchActsByModeAndState := by
  intro s c d k v hlive hd hfeedback hk hphase hdue hv u confirmed
  have hexec := exec_filterExpiry hlive hk hphase hdue
  refine ⟨fun hfault hstuck => ?_, fun hfault hstuck => ?_, fun hfault hmode => ?_, fun hfault hc he => ?_⟩
  all_goals change exec (.filterExpiry c) s = _; rw [hexec]
  · rw [confirmMismatch_fault hd hfeedback hk hfault, if_pos hstuck]
    rfl
  · rw [confirmMismatch_fault hd hfeedback hk hfault, if_neg (by simp [hstuck])]
    rfl
  · rw [confirmMismatch_report hd hfeedback hk hv hfault, if_pos hmode]
    rfl
  · have hdesc : ((recordChannel .feedbackFault c v (mismatchConfirmed c k s)).chan c).desc = some d := by
      change ((mismatchConfirmed c k s).chan c).desc = _
      rw [mismatchConfirmed, setChan_chan_self]
      exact hd
    rw [confirmMismatch_report hd hfeedback hk hv hfault, if_neg (by simp [hc, he]), faultChannel_eq hdesc]
    rfl

/-! ### CLEAR_FAULT (R138, R139) -/

theorem exec_clearFault {s : State} (c : Chan) (hs : Listening s)
    (hmode : s.ctl.mode = .run ∨ s.ctl.mode = .safe) :
    exec (.clearFault [BitVec.ofNat 8 c.val]) s = .next
      (match (s.chan c).desc with
        | none => respond .notConfigured [] s
        | some d =>
          if (s.chan c).state ≠ .fault then respond .notFaulted [] s
          else if s.ctl.mode = .run then respond .ok [] (arbitrate (clearFaultInRun c d s))
          else respond .ok [] (clearFaultInSafe c d s)) := by
  obtain ⟨hlive, hphase⟩ := hs
  change execClearFault _ s = _
  rw [execClearFault, takeRequest_taken hlive hphase List.length_singleton
    (by rcases hmode with h | h <;> simp [takenIn, h]), withChannel_good (toNat_byteAt_chan c [])] <;> rfl

theorem clearFaultInRun_eq {s : State} {c : Chan} {d : Descriptor} (hd : (s.chan c).desc = some d) :
    clearFaultInRun c d s = s.setChan c
      { outOfCadence .resting d.rest (s.chan c) with
        queue := [], stuckReported := false, cmp := forgotten d (s.chan c), slot := some d.rest } := by
  cases hf : d.feedback <;>
    simp [clearFaultInRun, requestDrive, modComparison, modChan, leaveCadence_eq, forgotten, hd, hf,
      Comparison.unknown]

/-- The comparison of a channel cleared in SAFE (R139). -/
def clearedComparison (d : Descriptor) (x : Channel) : Option Comparison :=
  match d.feedback with
  | some f => x.cmp.map (resettle f x.driven)
  | none => x.cmp

theorem clearedComparison_kept {d : Descriptor} {x : Channel} (h : d.feedback = none ∨ x.driven = none) :
    clearedComparison d x = x.cmp := by
  unfold clearedComparison
  rcases h with h | h
  · rw [h]
  · rw [h]
    split
    · exact Option.map_id_fun' ▸ rfl
    · rfl

theorem clearedComparison_settling {d : Descriptor} {x : Channel} {f : FeedbackPart} {v : Byte}
    (hf : d.feedback = some f) (hv : x.driven = some v) :
    clearedComparison d x = x.cmp.map fun _ => .settling f (expectedLevel f v) := by
  rw [clearedComparison, hf, hv]
  rfl

theorem clearFaultInSafe_eq {s : State} {c : Chan} {d : Descriptor} (hd : (s.chan c).desc = some d) :
    clearFaultInSafe c d s = s.setChan c
      { outOfCadence .safed d.safe (s.chan c) with
        stuckReported := false, cmp := clearedComparison d (s.chan c) } := by
  cases hf : d.feedback <;>
    simp [clearFaultInSafe, modComparison, modChan, leaveCadence_eq, clearedComparison, hd, hf]

/-- Settles O60: the descriptor and the state decide the refusals, the mode how the fault ends. -/
theorem clearFaultEndsTheFault : Obligations.ClearFaultEndsTheFault := by
  intro s c hs hmode x answers
  have hexec := exec_clearFault c hs hmode
  refine ⟨fun hnone => ?_, fun hsome hother => ?_, fun d hd hfault => ⟨fun hrun => ?_, fun hsafe => ?_⟩⟩
  · change exec _ s = _
    rw [hexec, hnone]
  · obtain ⟨d, hd⟩ := Option.isSome_iff_exists.mp hsome
    change exec _ s = _
    simp only [hexec, show (s.chan c).desc = some d from hd]
    rw [if_pos hother]
  · change exec _ s = _
    simp only [hexec, show (s.chan c).desc = some d from hd]
    rw [if_neg (not_not.mpr hfault), if_pos hrun, clearFaultInRun_eq hd]
  · have hcleared : exec (.clearFault [BitVec.ofNat 8 c.val]) s =
        .next (respond .ok [] (clearFaultInSafe c d s)) := by
      simp only [hexec, show (s.chan c).desc = some d from hd]
      rw [if_neg (not_not.mpr hfault), if_neg (by simp [hsafe])]
    intro y
    refine ⟨fun h => ?_, fun f v hf hv => ?_⟩
    · change exec _ s = _
      rw [hcleared, clearFaultInSafe_eq hd, clearedComparison_kept h]
    · change exec _ s = _
      rw [hcleared, clearFaultInSafe_eq hd, clearedComparison_settling hf hv, expectedLevel_eq]
      rfl

end Sys2Proof.Machine
end

section
/-! The cadence machines (chapters 3 and 4) and the tokens they pass on (chapter 5), which O52 to O56 are
about. -/

namespace Sys2Proof.Machine

/-! ### Cadence phases as updates of one channel -/

theorem setChan_comm {c k : Chan} (h : c ≠ k) (x y : Channel) (s : State) :
    (s.setChan c x).setChan k y = (s.setChan k y).setChan c x :=
  congrArg (fun v => { s with channels := v })
    (Vector.set_comm x y fun heq => h (Fin.ext heq))

/-- The record of a channel in HOLDING at `v`, its drive requested (R40, R43, R49). -/
def holdingAt (v : Byte) (x : Channel) : Channel :=
  { x with
    state := .holding, target := some v, requested := none, minHold := none, maxHold := none
    slot := some v }

/-- The record of a channel in MARK with a train of `n` marks, its drive requested (R60, R62). -/
def markingWith (p : TrainPart) (n : Nat) (x : Channel) : Channel :=
  { x with
    state := .mark, target := some p.markValue, requested := none, marks := n, trainCount := n
    abortPending := false, markTimer := none, slot := some p.markValue }

/-- The record of a HOLD channel released to RECOVERING (R48, R50). -/
def releasedTo (rest : Byte) (x : Channel) : Channel :=
  { x with
    state := .recovering, target := some rest, minHold := none, maxHold := none, recovery := none
    slot := some rest }

section
variable (c : Chan) (s : State)

theorem enterHolding_eq (v : Byte) : enterHolding c v s = s.setChan c (holdingAt v (s.chan c)) := by
  simp [enterHolding, requestDrive, modChan, holdingAt]

theorem enterMark_eq (p : TrainPart) (n : Nat) :
    enterMark c p n s = s.setChan c (markingWith p n (s.chan c)) := by
  simp [enterMark, requestDrive, modChan, markingWith]

theorem releaseHold_eq (d : Descriptor) :
    releaseHold c d s = s.setChan c (releasedTo d.rest (s.chan c)) := by
  simp [releaseHold, requestDrive, modChan, releasedTo]

end

/-! ### Tokens passed on (R43, R62, R82) -/

/-- A grant to `w` meets no change of another channel. -/
theorem deliverGrant_setChan {w c : Chan} (h : c ≠ w) (y : Channel) (s : State) :
    deliverGrant w (s.setChan c y) = (deliverGrant w s).setChan c y := by
  unfold deliverGrant
  rw [setChan_chan_ne s c w y h.symm]
  split
  · split
    · rw [enterHolding_eq, enterHolding_eq, setChan_chan_ne s c w y h.symm, setChan_comm h]
    · rw [enterMark_eq, enterMark_eq, setChan_chan_ne s c w y h.symm, setChan_comm h]
  · rfl

theorem passToken_setChan {g : Group} {s : State} {w c : Chan} {rest : List Chan}
    (hw : (s.group g).waiters = w :: rest) (h : c ≠ w) (y : Channel) :
    passToken g (s.setChan c y) = (passToken g s).setChan c y := by
  rw [passToken_grant hw, passToken_grant (s := s.setChan c y) hw, setGroup_setChan, deliverGrant_setChan h]

/-- A grant leaves every queue alone. -/
theorem deliverGrant_queue (w : Chan) (s : State) (k : Chan) :
    ((deliverGrant w s).chan k).queue = (s.chan k).queue := by
  rcases deliverGrant_cases w s with ⟨d, q, -, -, ⟨p, -, h⟩ | ⟨p, -, h⟩⟩ | ⟨-, h⟩ <;> rw [h]
  · rw [enterHolding_eq, setChan_chan]
    split
    · rename_i hk
      rw [hk]
      rfl
    · rfl
  · rw [enterMark_eq, setChan_chan]
    split
    · rename_i hk
      rw [hk]
      rfl
    · rfl

theorem passToken_queue (g : Group) (s : State) (k : Chan) :
    ((passToken g s).chan k).queue = (s.chan k).queue := by
  unfold passToken
  split
  · rfl
  · exact deliverGrant_queue _ _ k

theorem tokenGivenUp_queue (c : Chan) (d : Descriptor) (s : State) (k : Chan) :
    ((tokenGivenUp c d s).chan k).queue = (s.chan k).queue := by
  unfold tokenGivenUp
  split
  · rfl
  · split
    · exact passToken_queue _ s k
    · rfl

theorem exec_grant {g : Group} {s : State} {w : Chan} {rest : List Chan} (hlive : s.live = true)
    (hholder : (s.group g).holder = none) (hw : (s.group g).waiters = w :: rest) :
    exec (.grant g) s = .next (arbitrate (passToken g s)) := by
  change execGrant g s = _
  rw [execGrant, onEvent_taken hlive (by simp [hholder, hw])]

/-! ### Events of a HOLD channel in RUN -/

/-- The HOLD channel `c`, with descriptor `d`, takes its events: the part takes them and is in RUN. -/
structure HoldRuns (c : Chan) (d : Descriptor) (s : State) : Prop where
  live : s.live = true
  mode : s.ctl.mode = .run
  desc : (s.chan c).desc = some d
  hold : d.kind.holdPart.isSome = true

theorem live_of_pins {s t : State} (h : t.pins = s.pins) : t.live = s.live := by
  rw [State.live, State.live, State.heldInReset, State.heldInReset, h]

section
variable {c : Chan} {d : Descriptor} {s t : State}

/-- An operation of a channel leaves the HOLD channels running. -/
theorem HoldRuns.of_local {k : Chan} (h : HoldRuns c d s) (hst : Local k s t) : HoldRuns c d t :=
  ⟨(live_of_pins hst.pins).trans h.live, by rw [hst.ctl, h.mode], (hst.desc c).trans h.desc, h.hold⟩

theorem HoldRuns.holdDesc (h : HoldRuns c d s) : (s.chan c).holdDesc = some d := by
  obtain ⟨p, hp⟩ := exists_hold_of_holdPart h.hold
  simp [Channel.holdDesc, h.desc, hp, Option.filter]

theorem HoldRuns.onHold_taken (h : HoldRuns c d s) {condition : Channel → Bool}
    {body : Descriptor → State → State} (hcondition : condition (s.chan c) = true) :
    onHold c condition body s = arbitrate (body d s) := by
  simp only [onHold, h.holdDesc]
  exact onEvent_taken h.live (by simp [h.mode, hcondition])

theorem takeHoldHeads_nil (h : (s.chan c).queue = []) : takeHoldHeads c d s = reexamine c s := by
  rw [takeHoldHeads, h]
  rfl

theorem takeHolds_stops (h : holdTakes (s.chan c).state = false) (n : Nat) : takeHolds n c d s = s := by
  cases n with
  | zero => rfl
  | succ n =>
    unfold takeHolds
    split
    · rfl
    · simp [h]

theorem takeHoldHeads_cons {e : Entry} {rest : List Entry} (hq : (s.chan c).queue = e :: rest)
    (h : holdTakes (s.chan c).state = true) :
    takeHoldHeads c d s =
      reexamine c (takeHolds rest.length c d
        (actOnSet c d e.operand (s.setChan c { s.chan c with queue := rest }))) := by
  rw [takeHoldHeads, hq]
  simp only [List.length_cons, takeHolds, hq, h, if_true, dropHead, modChan, List.tail_cons]

theorem exec_holdHeadTake (h : HoldRuns c d s) (hq : (s.chan c).queue ≠ [])
    (htakes : holdTakes (s.chan c).state = true) :
    exec (.holdHeadTake c) s = .next (arbitrate (takeHoldHeads c d s)) := by
  change execHoldHeadTake c s = _
  rw [execHoldHeadTake, holdHeadTakes, h.onHold_taken (by simp [htakes, hq])]

/-! ### One head of a HOLD channel (R39 to R42, R48, R49) -/

section
variable {v : Byte}

theorem actOnSet_repeat (h : (s.chan c).intended = some v) : actOnSet c d v s = s := by
  simp [actOnSet, h]

theorem actOnSet_resting (hstate : (s.chan c).state = .resting) (h : (s.chan c).intended ≠ some v) :
    actOnSet c d v s = activateHold c d v s := by
  simp [actOnSet, h, hstate]

theorem actOnSet_withdrawn (hd : (s.chan c).desc = some d) (hstate : (s.chan c).state = .waiting)
    (h : (s.chan c).requested ≠ some v) (hrest : v = d.rest) :
    actOnSet c d v s =
      waiterRemoved c d (s.setChan c { s.chan c with state := .resting, requested := none }) := by
  have hintended : (s.chan c).intended ≠ some v := by rwa [intended_waiting hstate]
  rw [waiterRemoved_setChan, ← withdraw_eq hd, actOnSet, if_neg hintended, if_neg (by simp [hstate]),
    if_pos hstate, if_pos hrest, withdraw_eq hd, modChan, waiterRemoved_chan]

theorem actOnSet_replaced (hstate : (s.chan c).state = .waiting) (h : (s.chan c).requested ≠ some v)
    (hrest : v ≠ d.rest) :
    actOnSet c d v s = s.setChan c { s.chan c with requested := some v } := by
  have hintended : (s.chan c).intended ≠ some v := by rwa [intended_waiting hstate]
  rw [actOnSet, if_neg hintended, if_neg (by simp [hstate]), if_pos hstate, if_neg hrest]
  rfl

theorem actOnSet_released (hstate : (s.chan c).state = .held) (h : (s.chan c).target ≠ some v)
    (hrest : v = d.rest) :
    actOnSet c d v s = s.setChan c (releasedTo d.rest (s.chan c)) := by
  have hintended : (s.chan c).intended ≠ some v := by rwa [intended_of_not_waiting (by simp [hstate])]
  rw [actOnSet, if_neg hintended, if_neg (by simp [hstate]), if_neg (by simp [hstate]), if_pos hstate,
    if_pos hrest, releaseHold_eq]

theorem actOnSet_retargeted (hstate : (s.chan c).state = .held) (h : (s.chan c).target ≠ some v)
    (hrest : v ≠ d.rest) :
    actOnSet c d v s = s.setChan c (holdingAt v (s.chan c)) := by
  have hintended : (s.chan c).intended ≠ some v := by rwa [intended_of_not_waiting (by simp [hstate])]
  rw [actOnSet, if_neg hintended, if_neg (by simp [hstate]), if_neg (by simp [hstate]), if_pos hstate,
    if_neg hrest, enterHolding_eq]

theorem activateHold_ungrouped (hg : d.group = none) :
    activateHold c d v s = s.setChan c (holdingAt v (s.chan c)) := by
  simp [activateHold, hg, State.tokenFree, takeToken, enterHolding_eq]

theorem activateHold_free {g : Group} (hg : d.group = some g) (hfree : (s.group g).holder = none) :
    activateHold c d v s =
      (s.setChan c (holdingAt v (s.chan c))).setGroup g { s.group g with holder := some c } := by
  simp only [activateHold, hg, State.tokenFree, hfree, Option.isNone_none, if_true, takeToken, enterHolding_eq]
  rfl

theorem activateHold_waits {g : Group} (hg : d.group = some g) (hheld : (s.group g).holder ≠ none) :
    activateHold c d v s =
      (s.setChan c { s.chan c with state := .waiting, requested := some v }).setGroup g
        { s.group g with waiters := (s.group g).waiters ++ [c] } := by
  have hnot : ¬ (s.group g).holder.isNone = true := by simpa using hheld
  simp only [activateHold, hg, State.tokenFree]
  rw [if_neg hnot]
  rfl

end

/-- What the next heads do is what the next HOLD_HEAD_TAKE does, and without one the take is over. -/
theorem HoldRuns.goesOn (h : HoldRuns c d t) {rest : List Entry} (hq : (t.chan c).queue = rest)
    (htakes : holdTakes (t.chan c).state = true) :
    (rest = [] → takeHolds rest.length c d t = t) ∧
      (rest ≠ [] → exec (.holdHeadTake c) t =
        .next (arbitrate (reexamine c (takeHolds rest.length c d t)))) := by
  subst hq
  refine ⟨fun hnil => ?_, fun hne => ?_⟩
  · rw [hnil]
    rfl
  · rw [exec_holdHeadTake h hne htakes]
    rfl

end

/-- A queue shortened is an operation of its channel alone. -/
theorem local_setQueue (c : Chan) (q : List Entry) (s : State) :
    Local c s (s.setChan c { s.chan c with queue := q }) :=
  local_modChan (f := fun x => { x with queue := q }) ⟨rfl, rfl, id, .of_eq rfl⟩

/-- Settles O53: the head acts by the state, and the heads behind it go on while the channel takes heads. -/
theorem holdHeadIsTakenByTheState : Obligations.HoldHeadIsTakenByTheState := by
  intro s c d e rest hlive hmode hd hhold hqueue v x taken goesOn
  have hruns : HoldRuns c d s := ⟨hlive, hmode, hd, hhold⟩
  have hx : (s.setChan c x).chan c = x := setChan_chan_self s c x
  have hshort : Local c s (s.setChan c x) := local_setQueue c rest s
  have hexec {u : State} (htakes : holdTakes x.state = true) (hu : actOnSet c d v (s.setChan c x) = u) :
      exec (.holdHeadTake c) s = .next (arbitrate (reexamine c (takeHolds rest.length c d u))) := by
    rw [exec_holdHeadTake hruns (by simp [hqueue]) htakes, takeHoldHeads_cons hqueue htakes, ← hu]
  have htaken {u : State} (htakes : holdTakes x.state = true) (hu : actOnSet c d v (s.setChan c x) = u)
      (hstops : holdTakes (u.chan c).state = false) : taken u := by
    change exec _ s = _
    rw [hexec htakes hu, takeHolds_stops hstops]
  have hgoesOn {u : State} (htakes : holdTakes x.state = true) (hu : actOnSet c d v (s.setChan c x) = u)
      (hq : (u.chan c).queue = rest) (hstill : holdTakes (u.chan c).state = true) : goesOn u := by
    have hrunsOn : HoldRuns c d u := hruns.of_local (hu ▸ hshort.trans (local_actOnSet c d v _))
    obtain ⟨hnil, hcons⟩ := hrunsOn.goesOn hq hstill
    refine ⟨fun h => ?_, fun h => ?_⟩
    · change exec _ s = _
      rw [hexec htakes hu, hnil h]
    · rw [hexec htakes hu, hcons h]
  refine ⟨fun hstate hrepeat => ?_, fun hstate hother => ⟨fun hg => ?_, fun g hg => ⟨fun hfree => ?_,
    fun hheld => ?_⟩⟩, fun hstate hother => ⟨fun hrest => ?_, fun hrest => ?_⟩,
    fun hstate hother => ⟨fun hrest => ?_, fun hrest => ?_⟩⟩
  · have htakes : holdTakes x.state = true := by rcases hstate with h | h | h <;> rw [h] <;> rfl
    exact hgoesOn htakes (actOnSet_repeat (by rwa [hx])) (by rw [hx]) (by rwa [hx])
  · refine htaken (by rw [hstate]; rfl) ?_ (by rw [setChan_chan_self]; rfl)
    rw [actOnSet_resting (by rwa [hx]) (by rwa [hx]), activateHold_ungrouped hg, hx, setChan_setChan]
    rfl
  · refine htaken (by rw [hstate]; rfl) ?_ ?_
    · rw [actOnSet_resting (by rwa [hx]) (by rwa [hx]), activateHold_free hg (by exact hfree), hx,
        setChan_setChan]
      rfl
    · rw [setGroup_chan, setChan_chan_self]
      rfl
  · refine hgoesOn (by rw [hstate]; rfl) ?_ ?_ ?_
    · rw [actOnSet_resting (by rwa [hx]) (by rwa [hx]), activateHold_waits hg (by exact hheld), hx,
        setChan_setChan]
      rfl
    · rw [setGroup_chan, setChan_chan_self]
    · rw [setGroup_chan, setChan_chan_self]
      rfl
  · refine hgoesOn (by rw [hstate]; rfl) ?_ ?_ ?_
    · rw [actOnSet_withdrawn (by rw [hx]; exact hd) (by rwa [hx]) (by rwa [hx]) hrest, hx, setChan_setChan]
    · rw [waiterRemoved_chan, setChan_chan_self]
    · rw [waiterRemoved_chan, setChan_chan_self]
      rfl
  · refine hgoesOn (by rw [hstate]; rfl) ?_ ?_ ?_
    · rw [actOnSet_replaced (by rwa [hx]) (by rwa [hx]) hrest, hx, setChan_setChan]
    · rw [setChan_chan_self]
    · rw [setChan_chan_self]
      exact hstate ▸ rfl
  · refine htaken (by rw [hstate]; rfl) ?_ (by rw [setChan_chan_self]; rfl)
    rw [actOnSet_released (by rwa [hx]) (by rwa [hx]) hrest, hx, setChan_setChan]
    rfl
  · refine htaken (by rw [hstate]; rfl) ?_ (by rw [setChan_chan_self]; rfl)
    rw [actOnSet_retargeted (by rwa [hx]) (by rwa [hx]) hrest, hx, setChan_setChan]
    rfl

/-! ### What a HOLD channel keeps while it takes heads -/

section
variable {c : Chan} {d : Descriptor}

/-- The re-examination of a held write gives a HOLD channel an entry at most. -/
theorem reexamine_hold_chan {s : State} (hdesc : (s.chan c).desc = some d)
    (hhold : d.kind.holdPart.isSome = true) :
    ∃ q, (reexamine c s).chan c = { s.chan c with queue := q } := by
  obtain ⟨p, hp⟩ := exists_hold_of_holdPart hhold
  rcases reexamine_cases c s with heq | ⟨w, e, -, hd, -, -, -, heq⟩
  · exact ⟨_, by rw [heq]⟩
  · obtain rfl : d = e := Option.some.inj (hdesc.symm.trans hd)
    rw [heq, answerHost_frame]
    change ∃ q, (examine c d w.data .host s).2.chan c = _
    rcases examine_cases c d w.data .host s with ⟨hw, -⟩ | ⟨hw, -⟩ | ⟨e, -, ⟨-, he⟩ | ⟨-, -, he⟩ | ⟨-, -, he⟩⟩
    · simp [decodeWrite, hp] at hw
    · simp [decodeWrite, hp] at hw
    · exact ⟨_, by rw [he]⟩
    · exact ⟨_, by rw [he, appendEntry, modChan_chan_self]⟩
    · exact ⟨_, by rw [he]⟩

theorem reexamine_maxHoldDue {s : State} (hdesc : (s.chan c).desc = some d)
    (hhold : d.kind.holdPart.isSome = true) :
    maxHoldDue ((reexamine c s).chan c) = maxHoldDue (s.chan c) := by
  obtain ⟨q, hq⟩ := reexamine_hold_chan hdesc hhold
  rw [hq]
  rfl

/-- No head starts the max-hold timer. -/
theorem actOnSet_maxHold (v : Byte) (s : State) :
    ((actOnSet c d v s).chan c).maxHold = (s.chan c).maxHold ∨ ((actOnSet c d v s).chan c).maxHold = none := by
  unfold actOnSet activateHold
  dsimp only
  split
  · exact .inl rfl
  split
  · split
    · rw [enterHolding_eq, setChan_chan_self]
      exact .inr rfl
    · refine .inl ?_
      rw [enterWaiting, modChan_chan_self]
      cases d.group <;> rfl
  split
  · split
    · rw [modChan_chan_self]
      unfold withdraw
      split <;> exact .inl rfl
    · rw [modChan_chan_self]
      exact .inl rfl
  split
  · split
    · rw [releaseHold_eq, setChan_chan_self]
      exact .inr rfl
    · rw [enterHolding_eq, setChan_chan_self]
      exact .inr rfl
  · exact .inl rfl

theorem takeHolds_maxHold (n : Nat) (s : State) (h : (s.chan c).maxHold ≠ some 0) :
    ((takeHolds n c d s).chan c).maxHold ≠ some 0 := by
  induction n generalizing s with
  | zero => exact h
  | succ n ih =>
    unfold takeHolds
    split
    · exact h
    · split
      · refine ih _ ?_
        have hdropped : ((dropHead c s).chan c).maxHold ≠ some 0 := by
          rwa [dropHead, modChan_chan_self]
        rename_i e _ _ _
        rcases actOnSet_maxHold (c := c) (d := d) e.operand (dropHead c s) with hkept | hstopped
        · rwa [hkept]
        · rw [hstopped]
          exact fun h => nomatch h
      · exact h

theorem takeHoldHeads_not_due {s : State} (hdesc : (s.chan c).desc = some d)
    (hhold : d.kind.holdPart.isSome = true) (h : (s.chan c).maxHold ≠ some 0) :
    maxHoldDue ((takeHoldHeads c d s).chan c) = false := by
  rw [takeHoldHeads, reexamine_maxHoldDue (((local_takeHolds _ c d s).desc c).trans hdesc) hhold]
  simp [maxHoldDue, isDue, takeHolds_maxHold _ s h]

/-- Channel `c` in HELD, its min-hold timer stopped (R46). -/
def heldNow (c : Chan) (s : State) : State := s.setChan c { s.chan c with state := .held, minHold := none }

/-- A max-hold expiry of the same tick taken, if it is due (R51). -/
def thenMaxHold (c : Chan) (d : Descriptor) (s : State) : State :=
  if maxHoldDue (s.chan c) then forceRelease c d s else s

theorem becomeHeld_eq (c : Chan) (d : Descriptor) (s : State) :
    becomeHeld c d s = thenMaxHold c d (takeHoldHeads c d (heldNow c s)) := rfl

theorem thenMaxHold_not_due {s : State} (h : maxHoldDue (s.chan c) = false) : thenMaxHold c d s = s := by
  simp [thenMaxHold, h]

theorem heldNow_chan (c : Chan) (s : State) :
    (heldNow c s).chan c = { s.chan c with state := .held, minHold := none } :=
  setChan_chan_self s c _

theorem local_heldNow (c : Chan) (s : State) : Local c s (heldNow c s) :=
  local_modChan (f := fun x => { x with state := .held, minHold := none })
    ⟨rfl, rfl, id, due_of_stopped, id, id, id, id, id, id, id⟩

/-- A head that repeats the active value leaves HELD as it is (R39). -/
theorem takeHoldHeads_repeat {s : State} {e : Entry} {rest : List Entry} (hstate : (s.chan c).state = .held)
    (hq : (s.chan c).queue = e :: rest) (hsame : (s.chan c).target = some e.operand) :
    takeHoldHeads c d s = takeHoldHeads c d (s.setChan c { s.chan c with queue := rest }) := by
  have hshort : (s.setChan c { s.chan c with queue := rest }).chan c = { s.chan c with queue := rest } :=
    setChan_chan_self s c _
  have hrepeat : ((s.setChan c { s.chan c with queue := rest }).chan c).intended = some e.operand := by
    rw [hshort, intended_of_not_waiting (by simp [hstate])]
    exact hsame
  rw [takeHoldHeads_cons hq (by rw [hstate]; rfl), actOnSet_repeat hrepeat, takeHoldHeads, hshort]

/-- Any other head takes the channel out of HELD (R48, R49). -/
theorem takeHoldHeads_leaves_held {s : State} {e : Entry} {rest : List Entry} (hruns : HoldRuns c d s)
    (hstate : (s.chan c).state = .held) (hq : (s.chan c).queue = e :: rest)
    (hother : (s.chan c).target ≠ some e.operand) :
    maxHoldDue ((takeHoldHeads c d s).chan c) = false := by
  let short := s.setChan c { s.chan c with queue := rest }
  have hshort : short.chan c = { s.chan c with queue := rest } := setChan_chan_self s c _
  have hrunsOn : HoldRuns c d (actOnSet c d e.operand short) :=
    hruns.of_local ((local_setQueue c rest s).trans (local_actOnSet c d _ _))
  have hleft : holdTakes ((actOnSet c d e.operand short).chan c).state = false := by
    by_cases hrest : e.operand = d.rest
    · rw [actOnSet_released (by rwa [hshort]) (by rwa [hshort]) hrest, setChan_chan_self]
      rfl
    · rw [actOnSet_retargeted (by rwa [hshort]) (by rwa [hshort]) hrest, setChan_chan_self]
      rfl
  have hnotHeld : ((actOnSet c d e.operand short).chan c).state ≠ .held := fun h => by
    rw [h] at hleft
    cases hleft
  rw [takeHoldHeads_cons hq (by rw [hstate]; rfl), takeHolds_stops hleft, reexamine_maxHoldDue hrunsOn.desc hrunsOn.hold]
  simp [maxHoldDue, hnotHeld]

/-! ### The timers of a HOLD channel (R46, R50, R51, R53) -/

section
variable {s : State} (h : HoldRuns c d s)
include h

theorem exec_minHoldExpiry (hstate : (s.chan c).state = .holding) (hdue : (s.chan c).minHold = some 0) :
    exec (.minHoldExpiry c) s = .next (arbitrate (becomeHeld c d s)) := by
  change execMinHoldExpiry c s = _
  rw [execMinHoldExpiry, minHoldExpires, h.onHold_taken (by simp [hstate, hdue, isDue])]

theorem exec_maxHoldExpiry (hdue : maxHoldDue (s.chan c) = true) :
    exec (.maxHoldExpiry c) s = .next (arbitrate (forceRelease c d s)) := by
  change execMaxHoldExpiry c s = _
  rw [execMaxHoldExpiry, maxHoldExpires, h.onHold_taken hdue]

theorem exec_holdRecoveryEnd (hstate : (s.chan c).state = .recovering) (hdue : (s.chan c).recovery = some 0) :
    exec (.holdRecoveryEnd c) s = .next (arbitrate (endHoldRecovery c d s)) := by
  change execHoldRecoveryEnd c s = _
  rw [execHoldRecoveryEnd, holdRecoveryEnds, h.onHold_taken (by simp [hstate, hdue, isDue])]

end

/-- The HOLD channel at rest after its recovery, its token given up (R53, R82). -/
def holdRested (c : Chan) (d : Descriptor) (s : State) : State :=
  let v := tokenGivenUp c d (s.setChan c { s.chan c with recovery := none })
  v.setChan c { v.chan c with state := .resting, target := some d.rest }

theorem holdRested_eq {s : State} (hd : (s.chan c).desc = some d) :
    modChan c (fun x => { x with state := .resting, target := some d.rest })
      (releaseToken c (modChan c (fun x => { x with recovery := none }) s)) = holdRested c d s := by
  rw [releaseToken_eq (by rw [modChan_chan_self]; exact hd)]
  rfl

theorem endHoldRecovery_eq {s : State} (hd : (s.chan c).desc = some d) :
    endHoldRecovery c d s = takeHoldHeads c d (holdRested c d s) := by
  rw [endHoldRecovery, holdRested_eq hd]

theorem local_holdRested {s : State} (hd : (s.chan c).desc = some d) : Local c s (holdRested c d s) := by
  rw [← holdRested_eq hd]
  exact ((local_modChan ⟨rfl, rfl, id, id, id, id, id, id, due_of_stopped, id, id⟩).trans (local_releaseToken c _)).trans
    (local_modChan ⟨rfl, rfl, id, .of_eq rfl⟩)

theorem holdRested_queue (s : State) : ((holdRested c d s).chan c).queue = (s.chan c).queue := by
  rw [holdRested, setChan_chan_self]
  dsimp only
  rw [tokenGivenUp_queue, setChan_chan_self]

theorem endHoldRecovery_nil {s : State} (hd : (s.chan c).desc = some d) (hnil : (s.chan c).queue = []) :
    endHoldRecovery c d s = reexamine c (holdRested c d s) := by
  rw [endHoldRecovery_eq hd, takeHoldHeads_nil ((holdRested_queue s).trans hnil)]

/-- The end of a recovery takes the heads as the next HOLD_HEAD_TAKE does. -/
theorem endHoldRecovery_outcome {s : State} (h : HoldRuns c d s) :
    ((s.chan c).queue = [] → endHoldRecovery c d s = reexamine c (holdRested c d s)) ∧
      ((s.chan c).queue ≠ [] → exec (.holdHeadTake c) (holdRested c d s) =
        .next (arbitrate (endHoldRecovery c d s))) := by
  refine ⟨endHoldRecovery_nil h.desc, fun hne => ?_⟩
  have hqueue := holdRested_queue (c := c) (d := d) s
  rw [endHoldRecovery_eq h.desc]
  refine exec_holdHeadTake (h.of_local (local_holdRested h.desc)) (by rwa [hqueue]) ?_
  rw [holdRested, setChan_chan_self]
  rfl

end

/-- Settles O54: each timer in its state, with the heads that come after it. -/
theorem holdTimersExpire : Obligations.HoldTimersExpire := by
  intro s c d hlive hmode hd hhold x
  have hruns : HoldRuns c d s := ⟨hlive, hmode, hd, hhold⟩
  refine ⟨fun hstate hdue => ?_, fun hstate hdue v hv => ?_, fun hstate hdue => ?_⟩
  · intro u
    have hruns' : HoldRuns c d u := hruns.of_local (local_heldNow c s)
    have hu : u.chan c = { x with state := .held, minHold := none } := heldNow_chan c s
    have hexec : exec (.minHoldExpiry c) s = .next (arbitrate (thenMaxHold c d (takeHoldHeads c d u))) :=
      exec_minHoldExpiry hruns hstate hdue
    refine ⟨fun hnil hlong => ?_, fun hnil hmax => ?_, fun e rest hqueue => ⟨fun hsame => ?_, fun hother => ?_⟩⟩
    · rw [hexec, takeHoldHeads_nil (by rw [hu]; exact hnil), thenMaxHold_not_due]
      rw [reexamine_maxHoldDue hruns'.desc hruns'.hold, hu]
      simp [maxHoldDue, isDue, hlong]
    · have hmaxDue : maxHoldDue ((reexamine c u).chan c) = true := by
        rw [reexamine_maxHoldDue hruns'.desc hruns'.hold, hu]
        simp [maxHoldDue, isDue, hmax]
      rw [hexec, takeHoldHeads_nil (by rw [hu]; exact hnil), thenMaxHold, if_pos hmaxDue,
        exec_maxHoldExpiry (hruns'.of_local (local_reexamine c u)) hmaxDue]
    · let short := s.setChan c { x with queue := rest }
      have hshort : short.chan c = { x with queue := rest } := setChan_chan_self s c _
      have hexecShort := exec_minHoldExpiry (hruns.of_local (local_setQueue c rest s))
        (by rw [hshort]; exact hstate) (by rw [hshort]; exact hdue)
      have hheld : heldNow c short = u.setChan c { u.chan c with queue := rest } := by
        rw [heldNow, hshort, hu, setChan_setChan, setChan_setChan]
      rw [hexec, hexecShort, becomeHeld_eq, hheld,
        takeHoldHeads_repeat (by rw [hu]) (by rw [hu]; exact hqueue) (by rw [hu]; exact hsame)]
    · have hleaves := takeHoldHeads_leaves_held hruns' (by rw [hu]) (by rw [hu]; exact hqueue)
        (by rw [hu]; exact hother)
      rw [hexec, thenMaxHold_not_due hleaves,
        exec_holdHeadTake hruns' (by rw [hu]; simp [hqueue]) (by rw [hu]; rfl)]
  · rw [exec_maxHoldExpiry hruns (by simp [maxHoldDue, isDue, show (s.chan c).state = .held from hstate,
      show (s.chan c).maxHold = some 0 from hdue]), forceRelease, releaseHold_eq,
      show (s.chan c).target = some v from hv]
    rfl
  · intro v rested
    obtain ⟨hnil, hcons⟩ := endHoldRecovery_outcome hruns
    have hexec := exec_holdRecoveryEnd hruns hstate hdue
    exact ⟨fun h => by rw [hexec, hnil h]; rfl, fun h => by rw [hexec]; exact (hcons h).symm⟩

end Sys2Proof.Machine
end

section
/-! The TRAIN machine and the grants, which O52, O55 and O56 are about. -/

namespace Sys2Proof.Machine

/-! ### Events of a TRAIN channel in RUN -/

/-- The TRAIN channel `c`, with descriptor `d`, takes its events: the part takes them and is in RUN. -/
structure TrainRuns (c : Chan) (d : Descriptor) (p : TrainPart) (s : State) : Prop where
  live : s.live = true
  mode : s.ctl.mode = .run
  desc : (s.chan c).desc = some d
  train : d.kind = .train p

section
variable {c : Chan} {d : Descriptor} {p : TrainPart} {s t : State}

/-- An operation of a channel leaves the TRAIN channels running. -/
theorem TrainRuns.of_local {k : Chan} (h : TrainRuns c d p s) (hst : Local k s t) : TrainRuns c d p t :=
  ⟨(live_of_pins hst.pins).trans h.live, by rw [hst.ctl, h.mode], (hst.desc c).trans h.desc, h.train⟩

theorem TrainRuns.onTrain_taken (h : TrainRuns c d p s) {condition : Channel → Bool}
    {body : Descriptor → TrainPart → State → State} (hcondition : condition (s.chan c) = true) :
    onTrain c condition body s = arbitrate (body d p s) := by
  have hdesc : (s.chan c).trainDesc = some (d, p) := by simp [Channel.trainDesc, h.desc, h.train]
  simp only [onTrain, hdesc]
  exact onEvent_taken h.live (by simp [h.mode, hcondition])

theorem takeTrainHead_nil (h : (s.chan c).queue = []) : takeTrainHead c d p s = s := by
  rw [takeTrainHead, h]

theorem takeTrainHead_cons {e : Entry} {rest : List Entry} (hq : (s.chan c).queue = e :: rest)
    (hstate : (s.chan c).state = .resting) :
    takeTrainHead c d p s =
      reexamine c (actOnTrainEntry c d p e (s.setChan c { s.chan c with queue := rest })) := by
  simp only [takeTrainHead, hq, hstate, if_true, dropHead, modChan, List.tail_cons]

theorem exec_trainHeadTake (h : TrainRuns c d p s) (hq : (s.chan c).queue ≠ [])
    (hstate : (s.chan c).state = .resting) :
    exec (.trainHeadTake c) s = .next (arbitrate (takeTrainHead c d p s)) := by
  change execTrainHeadTake c s = _
  rw [execTrainHeadTake, trainHeadTakes, h.onTrain_taken (by simp [hstate, hq])]

/-- A head taken at rest, or none, is what the next TRAIN_HEAD_TAKE does. -/
theorem takeTrainHead_outcome (h : TrainRuns c d p s) (hstate : (s.chan c).state = .resting) :
    ((s.chan c).queue = [] → takeTrainHead c d p s = s) ∧
      ((s.chan c).queue ≠ [] →
        exec (.trainHeadTake c) s = .next (arbitrate (takeTrainHead c d p s))) :=
  ⟨takeTrainHead_nil, fun hq => exec_trainHeadTake h hq hstate⟩

/-! ### A head at rest (R60, R61, R80) -/

section
variable {n : Byte}

theorem startTrain_ungrouped (hg : d.group = none) :
    startTrain c d p n s = s.setChan c (markingWith p n.toNat (s.chan c)) := by
  simp [startTrain, hg, State.tokenFree, takeToken, enterMark_eq]

theorem startTrain_free {g : Group} (hg : d.group = some g) (hfree : (s.group g).holder = none) :
    startTrain c d p n s =
      (s.setChan c (markingWith p n.toNat (s.chan c))).setGroup g { s.group g with holder := some c } := by
  simp only [startTrain, hg, State.tokenFree, hfree, Option.isNone_none, if_true, takeToken, enterMark_eq]
  rfl

theorem startTrain_waits {g : Group} (hg : d.group = some g) (hheld : (s.group g).holder ≠ none) :
    startTrain c d p n s =
      (s.setChan c { s.chan c with state := .waiting, requested := some n }).setGroup g
        { s.group g with waiters := (s.group g).waiters ++ [c] } := by
  have hnot : ¬ (s.group g).holder.isNone = true := by simpa using hheld
  simp only [startTrain, hg, State.tokenFree]
  rw [if_neg hnot]
  rfl

end

end

/-- Settles O55: the head of a RESTING channel is a pause or a train, and a train asks for the token. -/
theorem trainHeadIsTakenAtRest : Obligations.TrainHeadIsTakenAtRest := by
  intro s c d p e rest hlive hmode hd hp hqueue hstate n x taken marking
  have hruns : TrainRuns c d p s := ⟨hlive, hmode, hd, hp⟩
  have hx : (s.setChan c x).chan c = x := setChan_chan_self s c x
  have htaken {u : State} (hu : actOnTrainEntry c d p e (s.setChan c x) = u) : taken u := by
    change exec _ s = _
    rw [exec_trainHeadTake hruns (by simp [hqueue]) hstate, takeTrainHead_cons hqueue hstate, ← hu]
  have htrain (hkind : e.kind = .train) :
      actOnTrainEntry c d p e (s.setChan c x) = startTrain c d p n (s.setChan c x) := by
    rw [actOnTrainEntry, hkind]
  refine ⟨fun hkind => htaken ?_, fun hkind => ⟨fun hg => htaken ?_, fun g hg => ⟨fun hfree => htaken ?_,
    fun hheld => htaken ?_⟩⟩⟩
  · rw [actOnTrainEntry, hkind]
    change modChan c _ (s.setChan c x) = _
    rw [modChan, hx, setChan_setChan]
    rfl
  · rw [htrain hkind, startTrain_ungrouped hg, hx, setChan_setChan]
    rfl
  · rw [htrain hkind, startTrain_free hg (by exact hfree), hx, setChan_setChan]
    rfl
  · rw [htrain hkind, startTrain_waits hg (by exact hheld), hx, setChan_setChan]
    rfl

/-! ### The timers of a TRAIN channel (R61, R65, R66, R68) -/

theorem leaveMark_eq (c : Chan) (d : Descriptor) (f : Channel → Channel) (s : State) :
    leaveMark c d f s = s.setChan c
      { f { s.chan c with target := some d.rest, markTimer := none } with slot := some d.rest } := by
  simp [leaveMark, requestDrive, modChan]

/-- The record of a TRAIN channel after its last mark (R65). -/
def markEnded (rest : Byte) (x : Channel) : Channel :=
  { x with
    state := .recovering, target := some rest, marks := 0, trainCount := 0, abortPending := false
    recovery := none, markTimer := none, slot := some rest }

section
variable {c : Chan} {d : Descriptor} {p : TrainPart} {s : State}

theorem endMark_aborted (h : (s.chan c).abortPending = true) :
    endMark c d s = s.setChan c (markEnded d.rest (s.chan c)) := by
  rw [endMark, if_pos h, leaveMark_eq]
  rfl

theorem endMark_last (h : (s.chan c).abortPending = false) (hlast : (s.chan c).marks ≤ 1) :
    endMark c d s =
      recordChannel .trainDone c (BitVec.ofNat 8 (s.chan c).trainCount)
        (s.setChan c (markEnded d.rest (s.chan c))) := by
  rw [endMark, if_neg (by simp [h]), if_pos (Nat.sub_eq_zero_of_le hlast), leaveMark_eq]
  rfl

theorem endMark_more (h : (s.chan c).abortPending = false) (hmore : 2 ≤ (s.chan c).marks) :
    endMark c d s = s.setChan c
      { s.chan c with
        state := .space, target := some d.rest, marks := (s.chan c).marks - 1, spaceTimer := none
        markTimer := none, slot := some d.rest } := by
  rw [endMark, if_neg (by simp [h]), if_neg (by omega), leaveMark_eq]

theorem endSpace_eq (c : Chan) (p : TrainPart) (s : State) :
    endSpace c p s = s.setChan c
      { s.chan c with
        state := .mark, target := some p.markValue, abortPending := false, spaceTimer := none
        markTimer := none, slot := some p.markValue } := by
  simp [endSpace, requestDrive, modChan]

/-- The TRAIN channel at rest after its recovery, its token given up (R68, R82). -/
def trainRested (c : Chan) (d : Descriptor) (s : State) : State :=
  let v := tokenGivenUp c d (s.setChan c { s.chan c with recovery := none })
  v.setChan c { v.chan c with state := .resting }

theorem trainRested_eq (hd : (s.chan c).desc = some d) :
    modChan c (fun x => { x with state := .resting })
      (releaseToken c (modChan c (fun x => { x with recovery := none }) s)) = trainRested c d s := by
  rw [releaseToken_eq (by rw [modChan_chan_self]; exact hd)]
  rfl

theorem local_trainRested (hd : (s.chan c).desc = some d) : Local c s (trainRested c d s) := by
  rw [← trainRested_eq hd]
  exact ((local_modChan ⟨rfl, rfl, id, id, id, id, id, id, due_of_stopped, id, id⟩).trans (local_releaseToken c _)).trans
    (local_modChan ⟨rfl, rfl, id, .of_eq rfl⟩)

theorem trainRested_queue : ((trainRested c d s).chan c).queue = (s.chan c).queue := by
  rw [trainRested, setChan_chan_self]
  dsimp only
  rw [tokenGivenUp_queue, setChan_chan_self]

theorem endTrainRecovery_eq (hd : (s.chan c).desc = some d) :
    endTrainRecovery c d p s = takeTrainHead c d p (trainRested c d s) := by
  rw [endTrainRecovery, trainRested_eq hd]

/-- The end of a recovery takes the head as the next TRAIN_HEAD_TAKE does. -/
theorem endTrainRecovery_outcome (h : TrainRuns c d p s) :
    ((s.chan c).queue = [] → endTrainRecovery c d p s = trainRested c d s) ∧
      ((s.chan c).queue ≠ [] → exec (.trainHeadTake c) (trainRested c d s) =
        .next (arbitrate (endTrainRecovery c d p s))) := by
  have houtcome := takeTrainHead_outcome (h.of_local (local_trainRested h.desc))
    (by rw [trainRested, setChan_chan_self])
  rwa [trainRested_queue, ← endTrainRecovery_eq h.desc] at houtcome

section
variable (h : TrainRuns c d p s)
include h

theorem exec_markExpiry (hstate : (s.chan c).state = .mark) (hdue : (s.chan c).markTimer = some 0) :
    exec (.markExpiry c) s = .next (arbitrate (endMark c d s)) := by
  change execMarkExpiry c s = _
  rw [execMarkExpiry, markExpires, h.onTrain_taken (by simp [hstate, hdue, isDue])]

theorem exec_spaceExpiry (hstate : (s.chan c).state = .space) (hdue : (s.chan c).spaceTimer = some 0) :
    exec (.spaceExpiry c) s = .next (arbitrate (endSpace c p s)) := by
  change execSpaceExpiry c s = _
  rw [execSpaceExpiry, spaceExpires, h.onTrain_taken (by simp [hstate, hdue, isDue])]

theorem exec_pauseExpiry (hstate : (s.chan c).state = .pausing) (hdue : (s.chan c).pauseTimer = some 0) :
    exec (.pauseExpiry c) s = .next (arbitrate (endPause c d p s)) := by
  change execPauseExpiry c s = _
  rw [execPauseExpiry, pauseExpires, h.onTrain_taken (by simp [hstate, hdue, isDue])]

theorem exec_trainRecoveryEnd (hstate : (s.chan c).state = .recovering)
    (hdue : (s.chan c).recovery = some 0) :
    exec (.trainRecoveryEnd c) s = .next (arbitrate (endTrainRecovery c d p s)) := by
  change execTrainRecoveryEnd c s = _
  rw [execTrainRecoveryEnd, trainRecoveryEnds, h.onTrain_taken (by simp [hstate, hdue, isDue])]

end

end

/-- Settles O56: each timer in its state. -/
theorem trainTimersExpire : Obligations.TrainTimersExpire := by
  intro s c d p hlive hmode hd hp x
  have hruns : TrainRuns c d p s := ⟨hlive, hmode, hd, hp⟩
  refine ⟨fun hstate hdue => ?_, fun hstate hdue => ?_, fun hstate hdue => ?_, fun hstate hdue => ?_⟩
  · intro y
    have hexec := exec_markExpiry hruns hstate hdue
    refine ⟨fun h => ?_, fun h hlast => ?_, fun h hmore => ?_⟩
    · rw [hexec, endMark_aborted h]
      rfl
    · rw [hexec, endMark_last h hlast]
      rfl
    · rw [hexec, endMark_more h hmore]
  · rw [exec_spaceExpiry hruns hstate hdue, endSpace_eq]
  · intro u
    have hexec := exec_pauseExpiry hruns hstate hdue
    have hu : u.chan c = { x with state := .resting, pauseTimer := none } := setChan_chan_self s c _
    have hpaused : Local c s u :=
      local_modChan (f := fun x => { x with state := .resting, pauseTimer := none })
        ⟨rfl, rfl, id, id, id, id, id, due_of_stopped, id, id, id⟩
    obtain ⟨hnil, hcons⟩ := takeTrainHead_outcome (hruns.of_local hpaused) (by rw [hu])
    rw [hu] at hnil hcons
    refine ⟨fun h => ?_, fun h => ?_⟩
    · rw [hexec]
      exact congrArg (fun t => Host.Outcome.next (arbitrate t)) (hnil h)
    · rw [hexec]
      exact (hcons h).symm
  · intro v rested
    obtain ⟨hnil, hcons⟩ := endTrainRecovery_outcome hruns
    have hexec := exec_trainRecoveryEnd hruns hstate hdue
    exact ⟨fun h => by rw [hexec, hnil h]; rfl, fun h => by rw [hexec]; exact (hcons h).symm⟩

/-! ### A token passed on at the end of a recovery (R53, R68, R82) -/

/-- The token that `c` gives up at its rest goes to the head waiter. -/
theorem tokenGivenUp_rest {s : State} {c w : Chan} {e : Descriptor} {g : Group} {rest : List Chan}
    (hg : e.group = some g) (hholder : (s.group g).holder = some c)
    (hw : (s.group g).waiters = w :: rest) (hne : c ≠ w) (y : Channel) :
    tokenGivenUp c e (s.setChan c y) = (passToken g s).setChan c y := by
  simp only [tokenGivenUp, hg]
  rw [if_pos (by exact hholder), passToken_setChan hw hne]

theorem holdRested_passed {s : State} {c w : Chan} {e : Descriptor} {g : Group} {rest : List Chan}
    (hg : e.group = some g) (hholder : (s.group g).holder = some c)
    (hw : (s.group g).waiters = w :: rest) (hne : c ≠ w) :
    holdRested c e s = (passToken g s).setChan c
      { s.chan c with state := .resting, target := some e.rest, recovery := none } := by
  rw [holdRested, tokenGivenUp_rest hg hholder hw hne, setChan_setChan, setChan_chan_self]

theorem trainRested_passed {s : State} {c w : Chan} {e : Descriptor} {g : Group} {rest : List Chan}
    (hg : e.group = some g) (hholder : (s.group g).holder = some c)
    (hw : (s.group g).waiters = w :: rest) (hne : c ≠ w) :
    trainRested c e s = (passToken g s).setChan c
      { s.chan c with state := .resting, recovery := none } := by
  rw [trainRested, tokenGivenUp_rest hg hholder hw hne, setChan_setChan, setChan_chan_self]

/-- Settles O52: the token passed on is one update of the head waiter, by GRANT and by the end of a recovery. -/
theorem grantServesTheHeadWaiter : Obligations.GrantServesTheHeadWaiter := by
  refine ⟨fun s g => passToken_free, fun s g w rest d q hw hd hq => ?_⟩
  intro t served
  have hserved (u : State) (hu : passToken g s = u) : served u := by
    refine ⟨hu, fun hlive hholder => hu ▸ exec_grant hlive hholder hw, ?_⟩
    intro c e hlive hholder hne hmode hdesc hg hstate hdue
    refine ⟨fun hhold => ?_, fun htrain => ?_⟩
    · intro v
      have hruns : HoldRuns c e s := ⟨hlive, hmode, hdesc, hhold⟩
      have hv : holdRested c e s = v := (holdRested_passed hg hholder hw hne).trans (hu ▸ rfl)
      obtain ⟨hnil, hcons⟩ := endHoldRecovery_outcome hruns
      rw [hv] at hnil hcons
      have hexec := exec_holdRecoveryEnd hruns hstate hdue
      exact ⟨fun h => by rw [hexec, hnil h], fun h => by rw [hexec, hcons h]⟩
    · intro v
      obtain ⟨p, hp⟩ := exists_train_of_trainPart htrain
      have hruns : TrainRuns c e p s := ⟨hlive, hmode, hdesc, hp⟩
      have hv : trainRested c e s = v := (trainRested_passed hg hholder hw hne).trans (hu ▸ rfl)
      obtain ⟨hnil, hcons⟩ := endTrainRecovery_outcome hruns
      rw [hv] at hnil hcons
      have hexec := exec_trainRecoveryEnd hruns hstate hdue
      exact ⟨fun h => by rw [hexec, hnil h], fun h => by rw [hexec, hcons h]⟩
  have hgranted : passToken g s = deliverGrant w t := passToken_grant hw
  have hgrant : (t.chan w).desc = some d ∧ (t.chan w).requested = some q := ⟨hd, hq⟩
  refine ⟨fun hhold => hserved _ ?_, fun p hp => hserved _ ?_⟩
  · obtain ⟨p, hp⟩ := exists_hold_of_holdPart hhold
    rw [hgranted, deliverGrant, hgrant.1, hgrant.2]
    simp only [hp, enterHolding_eq]
    rfl
  · rw [hgranted, deliverGrant, hgrant.1, hgrant.2]
    simp only [hp, enterMark_eq]
    rfl

end Sys2Proof.Machine
end

section
/-! The ends of a drive write (chapter 6), which O49 to O51 are about. -/

namespace Sys2Proof.Machine

/-! ### The mark and the report of the transition (R103, R142) -/

theorem updateMark_eq (c : Chan) (s : State) : updateMark c s = markTested c s := by
  unfold updateMark markTested modChan
  by_cases h : (s.chan c).slot = none <;> simp [h]

/-- The report of R142 is the completion of the transition, or nothing. -/
theorem reported_transitionReport {s : State} (hlive : s.live = true) :
    Reported s (transitionReport s) := by
  refine ⟨fun h => ?_, fun hmarks => ⟨fun hmode => ?_, fun hmode => ?_, fun hmode => ?_⟩⟩
  · rcases h with hsettled | ⟨k, hk⟩
    · unfold transitionReport
      split
      · split <;> rename_i hmode <;> first | rfl | exact absurd hsettled (by simp [hmode, Mode.isTransition])
      · rfl
    · exact transitionReport_marked hk
  · rw [transitionReport_enteringRun hmarks hmode]
    exact ⟨exec_enteringRunComplete hlive hmode hmarks, rfl⟩
  · rw [transitionReport_enteringSafe hmarks hmode]
    exact ⟨exec_enteringSafeComplete hmarks hlive hmode, rfl⟩
  · rw [transitionReport_enteringConfig hmarks hmode]
    exact ⟨exec_enteringConfigComplete hmarks hlive hmode, rfl⟩

theorem endDrive_eq (c : Chan) (s : State) :
    endDrive c s = arbitrate (transitionReport (markTested c s)) := by
  rw [endDrive, updateMark_eq]

theorem endDrive_outcome {c : Chan} {w : State} {o : Host.Outcome State Fault Refusal} (hlive : w.live = true)
    (ho : o = .next (endDrive c w)) : ∃ t, Reported (markTested c w) t ∧ o = .next (arbitrate t) := by
  have hlive' : (markTested c w).live = true := by
    rw [← updateMark_eq]
    exact (live_of_pins (calm_updateMark c w).pins).trans hlive
  exact ⟨_, reported_transitionReport hlive', by rw [ho, endDrive_eq]⟩

/-- Out of the transitions and with no mark to clear a drive write ends in the arbiter's choice. -/
theorem endDrive_settled {c : Chan} {s : State} (hmode : s.ctl.mode = .run)
    (hmark : (s.chan c).transitionMark = false) : endDrive c s = arbitrate s := by
  have htested : markTested c s = s := by
    unfold markTested
    split
    · rw [← hmark]
      exact setChan_self s c
    · rfl
  have hreport : transitionReport s = s := by
    unfold transitionReport
    rw [hmode]
    exact ite_self s
  rw [endDrive_eq, htested, hreport]

/-! ### The two ends of a drive write (R101, R104) -/

/-- The state as the bus of a drive write of `c` is freed and the record of `c` becomes `y`. -/
def freedWith (c : Chan) (y : Channel) (s : State) : State := { s.setChan c y with down := freedBus s.down }

theorem freedWith_chan (c : Chan) (y : Channel) (s : State) : (freedWith c y s).chan c = y :=
  setChan_chan_self s c y

theorem freedWith_setChan (c : Chan) (y z : Channel) (s : State) :
    (freedWith c y s).setChan c z = freedWith c z s := by
  have h := setChan_setChan s c y z
  exact congrArg (fun t : State => { t with down := freedBus s.down }) h

theorem freeBus_eq (c : Chan) (s : State) : freeBus s = freedWith c (s.chan c) s := by
  rw [freedWith, setChan_self]
  rfl

section
variable {s : State} {f : InFlight} (hlive : s.live = true) (hbus : s.down.bus = .drive f)
include hlive hbus

theorem exec_driveCompletion :
    exec .driveCompletion s =
      .next (endDrive f.channel ((if f.attached then creditCompletion f else id) (freeBus s))) := by
  change execDriveCompletion s = _
  simp only [execDriveCompletion, hbus]
  rw [onEvent_taken hlive rfl]

theorem exec_driveTimeout :
    exec .driveTimeout s =
      .next (endDrive f.channel ((if f.attached then chargeTimeout f else id)
        (recordChannel .driveTimeout f.channel f.value (freeBus s)))) := by
  change execDriveTimeout s = _
  simp only [execDriveTimeout, hbus]
  rw [onEvent_taken hlive rfl]

end

/-- The driven value and the comparison of a credited completion (R101, R128). -/
def credited (d : Descriptor) (v : Byte) (x : Channel) : Channel :=
  { x with driven := some v, cmp := comparedAt d v x }

theorem credited_eq {s : State} {c : Chan} {d : Descriptor} (hd : (s.chan c).desc = some d) (v : Byte) :
    modComparison c (fun fb k => k.completion fb v)
      (modChan c (fun x => { x with driven := some v }) s) = s.setChan c (credited d v (s.chan c)) := by
  cases hf : d.feedback <;> simp [modComparison, modChan, credited, comparedAt, hd, hf]

/-- A completion credited with a drive still pending starts nothing (R101). -/
theorem creditCompletion_pending {s : State} {f : InFlight} {d : Descriptor}
    (hd : (s.chan f.channel).desc = some d) (hslot : (s.chan f.channel).slot ≠ none) :
    creditCompletion f s = s.setChan f.channel (credited d f.value (s.chan f.channel)) := by
  rw [creditCompletion, if_neg hslot, credited_eq hd]

/-- The latest completion goes on to the cadence machine (R45, R64). -/
theorem creditCompletion_latest {s : State} {f : InFlight} {d : Descriptor}
    (hd : (s.chan f.channel).desc = some d) (hslot : (s.chan f.channel).slot = none) :
    creditCompletion f s =
      cadenceCompletion f.channel (s.setChan f.channel (credited d f.value (s.chan f.channel))) := by
  rw [creditCompletion, if_pos hslot, credited_eq hd]

section
variable {s : State} {c : Chan} {d : Descriptor}

theorem cadenceCompletion_hold {p : HoldPart} (hd : (s.chan c).desc = some d) (hp : d.kind = .hold p) :
    cadenceCompletion c s = holdCompletion c d p s := by
  simp only [cadenceCompletion, hd, hp]

theorem cadenceCompletion_train {p : TrainPart} (hd : (s.chan c).desc = some d) (hp : d.kind = .train p) :
    cadenceCompletion c s = trainCompletion c d p s := by
  simp only [cadenceCompletion, hd, hp]

/-! ### The completion at a HOLD channel (R45, R46, R53) -/

section
variable {p : HoldPart}

theorem holdCompletion_holding (hstate : (s.chan c).state = .holding) (htimer : (s.chan c).minHold = none) :
    holdCompletion c d p s =
      if p.minHold = 0 then
        becomeHeld c d (s.setChan c
          { s.chan c with minHold := fullTimer p.minHold.toNat, maxHold := fullTimer p.maxHold.toNat })
      else s.setChan c
          { s.chan c with minHold := fullTimer p.minHold.toNat, maxHold := fullTimer p.maxHold.toNat } := by
  rw [holdCompletion, if_pos ⟨hstate, htimer⟩]
  rfl

theorem holdCompletion_recovering (hstate : (s.chan c).state = .recovering)
    (htimer : (s.chan c).recovery = none) :
    holdCompletion c d p s =
      if d.gap = 0 then endHoldRecovery c d s
      else s.setChan c { s.chan c with recovery := fullTimer d.gap.toNat } := by
  rw [holdCompletion, if_neg (by simp [hstate]), if_pos ⟨hstate, htimer⟩]
  rfl

theorem holdCompletion_none (h : ¬ ((s.chan c).state = .holding ∧ (s.chan c).minHold = none))
    (h' : ¬ ((s.chan c).state = .recovering ∧ (s.chan c).recovery = none)) :
    holdCompletion c d p s = s := by
  rw [holdCompletion, if_neg h, if_neg h']

end

/-! ### The completion at a TRAIN channel (R64) -/

section
variable {p : TrainPart}

theorem trainCompletion_mark (hstate : (s.chan c).state = .mark) (htimer : (s.chan c).markTimer = none) :
    trainCompletion c d p s = s.setChan c { s.chan c with markTimer := fullTimer p.markTime.toNat } := by
  rw [trainCompletion, modChan, if_pos ⟨hstate, htimer⟩]
  rfl

theorem trainCompletion_space (hstate : (s.chan c).state = .space) (htimer : (s.chan c).spaceTimer = none) :
    trainCompletion c d p s = s.setChan c { s.chan c with spaceTimer := fullTimer p.spaceTime.toNat } := by
  rw [trainCompletion, modChan, if_neg (by simp [hstate]), if_pos ⟨hstate, htimer⟩]
  rfl

theorem trainCompletion_recovering (hstate : (s.chan c).state = .recovering)
    (htimer : (s.chan c).recovery = none) :
    trainCompletion c d p s = s.setChan c { s.chan c with recovery := fullTimer d.gap.toNat } := by
  rw [trainCompletion, modChan, if_neg (by simp [hstate]), if_neg (by simp [hstate]), if_pos ⟨hstate, htimer⟩]
  rfl

theorem trainCompletion_none (hmark : ¬ ((s.chan c).state = .mark ∧ (s.chan c).markTimer = none))
    (hspace : ¬ ((s.chan c).state = .space ∧ (s.chan c).spaceTimer = none))
    (hrecovering : ¬ ((s.chan c).state = .recovering ∧ (s.chan c).recovery = none)) :
    trainCompletion c d p s = s := by
  rw [trainCompletion, modChan, if_neg hmark, if_neg hspace, if_neg hrecovering, setChan_self]

end

end

theorem fullTimer_pos {n : Half} (h : n ≠ 0) : fullTimer n.toNat = some (n.toNat + 1) :=
  if_neg fun hzero => h (BitVec.eq_of_toNat_eq hzero)

theorem fullTimer_ne_due (n : Nat) : fullTimer n ≠ some 0 := by
  by_cases h : n = 0 <;> simp [fullTimer, h]

section
variable {s : State} {f : InFlight} (hlive : s.live = true) (hbus : s.down.bus = .drive f)
variable (hattached : f.attached = true) {w : State} (hw : creditCompletion f (freeBus s) = w)
include hlive hbus hattached hw

theorem exec_driveCompletion_attached :
    exec .driveCompletion s = .next (endDrive f.channel w) := by
  rw [exec_driveCompletion hlive hbus, if_pos hattached, hw]

/-- A credited completion ends with the mark, the report and the arbiter's choice (R101). -/
theorem driveCompletion_ended :
    ∃ t, Reported (markTested f.channel w) t ∧ exec .driveCompletion s = .next (arbitrate t) := by
  have hcredit : Local f.channel (freeBus s) w := hw ▸ local_creditCompletion f (freeBus s)
  exact endDrive_outcome ((live_of_pins hcredit.pins).trans hlive)
    (exec_driveCompletion_attached hlive hbus hattached hw)

/-- In RUN, without a mark, the arbiter's choice is all that follows the credit. -/
theorem driveCompletion_settled (hmode : s.ctl.mode = .run)
    (hmark : (s.chan f.channel).transitionMark = false) :
    exec .driveCompletion s = .next (arbitrate w) := by
  have hcredit : Local f.channel (freeBus s) w := hw ▸ local_creditCompletion f (freeBus s)
  have hmarkw : (w.chan f.channel).transitionMark = false := by
    rw [Bool.eq_false_iff]
    intro h
    rcases hcredit.mark _ h with hm | ⟨hm, -⟩
    · exact absurd (hm.symm.trans hmark) (by simp)
    · rw [show (freeBus s).ctl.mode = .run from hmode] at hm
      cases hm
  rw [exec_driveCompletion_attached hlive hbus hattached hw,
    endDrive_settled ((congrArg ModeControl.mode hcredit.ctl).trans hmode) hmarkw]

end

/-- A recovery timer that does not run needs no stop. -/
theorem holdRested_stopped {c : Chan} {d : Descriptor} {s : State} (h : (s.chan c).recovery = none) :
    holdRested c d s = (tokenGivenUp c d s).setChan c
      { (tokenGivenUp c d s).chan c with state := .resting, target := some d.rest } := by
  have hsame : s.setChan c { s.chan c with recovery := none } = s := by
    rw [← h]
    exact setChan_self s c
  rw [holdRested, hsame]

/-- The latest completion of a channel HELD at once, its min-hold time 0 (R45, R46). -/
theorem holdCompletion_heldAtOnce {s : State} {c : Chan} {d : Descriptor} {p : HoldPart} {y : Channel}
    (hd : y.desc = some d) (hp : d.kind = .hold p) (hstate : y.state = .holding) (htimer : y.minHold = none)
    (hzero : p.minHold = 0) :
    holdCompletion c d p (freedWith c y s) =
      takeHoldHeads c d (freedWith c { y with state := .held, maxHold := fullTimer p.maxHold.toNat } s) := by
  let held := freedWith c { y with state := .held, maxHold := fullTimer p.maxHold.toNat } s
  have hchan : held.chan c = { y with state := .held, maxHold := fullTimer p.maxHold.toNat } :=
    freedWith_chan c _ s
  have hnow : heldNow c ((freedWith c y s).setChan c
      { y with minHold := fullTimer p.minHold.toNat, maxHold := fullTimer p.maxHold.toNat }) = held := by
    rw [heldNow, setChan_chan_self, setChan_setChan, freedWith_setChan, ← htimer]
  rw [holdCompletion_holding (by rw [freedWith_chan]; exact hstate) (by rw [freedWith_chan]; exact htimer),
    if_pos hzero, freedWith_chan, becomeHeld_eq, hnow, thenMaxHold_not_due]
  exact takeHoldHeads_not_due (by rw [hchan]; exact hd) (by rw [hp]; rfl)
    (by rw [hchan]; exact fullTimer_ne_due _)

/-- Settles O49: the credit, then the machine of the channel's kind in its state, then the end of the write. -/
theorem driveCompletionActsByTheState : Obligations.DriveCompletionActsByTheState := by
  intro s f hlive hbus c x freed ended takesHead
  refine ⟨fun hdetached => ?_, fun d hattached hd => ?_⟩
  · refine endDrive_outcome (by exact hlive) ?_
    rw [exec_driveCompletion hlive hbus, if_neg (by simp [hdetached]), freeBus_eq f.channel]
    rfl
  intro y
  have hdfree : ((freeBus s).chan c).desc = some d := hd
  have hy : (freedWith c y s).chan c = y := freedWith_chan c y s
  have hdy : ((freedWith c y s).chan c).desc = some d := by rw [hy]; exact hd
  have hended (w : State) (hw : creditCompletion f (freeBus s) = w) : ended w :=
    driveCompletion_ended hlive hbus hattached hw
  have hlatest (hslot : x.slot = none) : creditCompletion f (freeBus s) =
      cadenceCompletion c (freedWith c y s) := creditCompletion_latest hdfree hslot
  refine ⟨fun hslot => hended _ (creditCompletion_pending hdfree hslot), fun p hslot hp => ?_,
    fun p hslot hp => ?_⟩
  · have hwork : creditCompletion f (freeBus s) = holdCompletion c d p (freedWith c y s) :=
      (hlatest hslot).trans (cadenceCompletion_hold hdy hp)
    have htakesHead (u : State) (hdu : (u.chan c).desc = some d) (hpins : u.pins = s.pins)
        (hctl : u.ctl = s.ctl) (hq : (u.chan c).queue ≠ []) (htakes : holdTakes (u.chan c).state = true)
        (hw : creditCompletion f (freeBus s) = takeHoldHeads c d u) : takesHead u := fun hmode hmark => by
      have hruns : HoldRuns c d u :=
        ⟨(live_of_pins hpins).trans hlive, by rw [hctl, hmode], hdu, by rw [hp]; rfl⟩
      rw [driveCompletion_settled hlive hbus hattached hw hmode hmark, exec_holdHeadTake hruns hq htakes]
    refine ⟨fun hstate htimer => ?_, fun hstate htimer => ?_, fun hholding hrecovering => hended _ ?_⟩
    · intro z held
      have hheld (hzero : p.minHold = 0) : creditCompletion f (freeBus s) = takeHoldHeads c d held :=
        hwork.trans (holdCompletion_heldAtOnce hd hp hstate htimer hzero)
      have hchan : held.chan c = { z with state := .held } := freedWith_chan c _ s
      refine ⟨fun hlong => hended _ (hwork.trans ?_), fun hzero hnil => hended _ ?_, fun hzero hne => ?_⟩
      · rw [holdCompletion_holding (by rw [hy]; exact hstate) (by rw [hy]; exact htimer), if_neg hlong, hy,
          freedWith_setChan, fullTimer_pos hlong]
        rfl
      · rw [hheld hzero, takeHoldHeads_nil (by rw [hchan]; exact hnil)]
      · exact htakesHead held (by rw [hchan]; exact hd) rfl rfl (by rw [hchan]; exact hne)
          (by rw [hchan]; rfl) (hheld hzero)
    · intro v rested
      have hrested : holdRested c d (freedWith c y s) = rested := holdRested_stopped (by rw [hy]; exact htimer)
      have hlocal : Local c (freedWith c y s) rested := hrested ▸ local_holdRested hdy
      have hqueue : (rested.chan c).queue = x.queue := by
        rw [← hrested, holdRested_queue, hy]
      have hend (hzero : d.gap = 0) : creditCompletion f (freeBus s) = takeHoldHeads c d rested := by
        rw [hwork, holdCompletion_recovering (by rw [hy]; exact hstate) (by rw [hy]; exact htimer),
          if_pos hzero, endHoldRecovery_eq hdy, hrested]
      refine ⟨fun hlong => hended _ (hwork.trans ?_), fun hzero hnil => hended _ ?_, fun hzero hne => ?_⟩
      · rw [holdCompletion_recovering (by rw [hy]; exact hstate) (by rw [hy]; exact htimer), if_neg hlong, hy,
          freedWith_setChan, fullTimer_pos hlong]
        rfl
      · rw [hend hzero, takeHoldHeads_nil (hqueue.trans hnil)]
      · refine htakesHead rested ((hlocal.desc c).trans hdy) hlocal.pins hlocal.ctl (by rwa [hqueue]) ?_
          (hend hzero)
        rw [setChan_chan_self]
        rfl
    · rw [hwork, holdCompletion_none (by rw [hy]; exact hholding) (by rw [hy]; exact hrecovering)]
      rfl
  · have hwork : creditCompletion f (freeBus s) = trainCompletion c d p (freedWith c y s) :=
      (hlatest hslot).trans (cadenceCompletion_train hdy hp)
    have hfreed (z : Channel) (h : trainCompletion c d p (freedWith c y s) =
        (freedWith c y s).setChan c z) : ended (freed z) :=
      hended _ (hwork.trans (h.trans (freedWith_setChan c y z s)))
    refine ⟨fun hstate htimer => hfreed _ ?_, fun hstate htimer => hfreed _ ?_,
      fun hstate htimer => hfreed _ ?_, fun hmark hspace hrecovering => hended _ (hwork.trans ?_)⟩
    · rw [trainCompletion_mark (by rw [hy]; exact hstate) (by rw [hy]; exact htimer), hy]
    · rw [trainCompletion_space (by rw [hy]; exact hstate) (by rw [hy]; exact htimer), hy]
    · rw [trainCompletion_recovering (by rw [hy]; exact hstate) (by rw [hy]; exact htimer), hy]
    · rw [trainCompletion_none (by rw [hy]; exact hmark) (by rw [hy]; exact hspace)
        (by rw [hy]; exact hrecovering)]
      rfl

/-! ### A drive write that ends in a transition (R103, R142) -/

/-- A SAFED or FAULT channel starts nothing at a completion. -/
theorem creditCompletion_idle {s : State} {f : InFlight} {d : Descriptor}
    (hd : (s.chan f.channel).desc = some d)
    (hstate : (s.chan f.channel).state = .safed ∨ (s.chan f.channel).state = .fault) :
    creditCompletion f (freeBus s) =
      freedWith f.channel (credited d f.value (s.chan f.channel)) s := by
  have hdfree : ((freeBus s).chan f.channel).desc = some d := hd
  have hy := freedWith_chan f.channel (credited d f.value (s.chan f.channel)) s
  have hdy : ((freedWith f.channel (credited d f.value (s.chan f.channel)) s).chan f.channel).desc = some d := by
    rw [hy]
    exact hd
  by_cases hslot : (s.chan f.channel).slot = none
  · refine (creditCompletion_latest hdfree hslot).trans ?_
    change cadenceCompletion f.channel (freedWith f.channel (credited d f.value (s.chan f.channel)) s) = _
    have hidle (st : ChanState) (hsafed : st ≠ .safed) (hfault : st ≠ .fault) :
        (credited d f.value (s.chan f.channel)).state ≠ st := by
      rcases hstate with h | h <;> rw [show (credited d f.value (s.chan f.channel)).state = _ from h]
      · exact hsafed.symm
      · exact hfault.symm
    cases hp : d.kind with
    | hold p =>
      rw [cadenceCompletion_hold hdy hp, holdCompletion_none] <;> rw [hy]
      · exact fun h => hidle .holding (by decide) (by decide) h.1
      · exact fun h => hidle .recovering (by decide) (by decide) h.1
    | train p =>
      rw [cadenceCompletion_train hdy hp, trainCompletion_none] <;> rw [hy]
      · exact fun h => hidle .mark (by decide) (by decide) h.1
      · exact fun h => hidle .space (by decide) (by decide) h.1
      · exact fun h => hidle .recovering (by decide) (by decide) h.1
  · exact creditCompletion_pending hdfree hslot

/-- Settles O50: the mark is tested after the credit, and with none left the transition completes. -/
theorem lastDriveEndCompletesTheTransition : Obligations.LastDriveEndCompletesTheTransition := by
  intro s f d hlive hbus hattached hd hstate htransition c x u
  obtain ⟨t, ⟨hkept, hcompletes⟩, hexec⟩ :=
    driveCompletion_ended hlive hbus hattached (creditCompletion_idle hd hstate)
  have htested : markTested f.channel (freedWith f.channel (credited d f.value (s.chan f.channel)) s) = u := by
    have hu : u = freedWith f.channel { credited d f.value (s.chan f.channel) with
        transitionMark := if x.slot = none then false else x.transitionMark } s := rfl
    have hslot : (credited d f.value (s.chan f.channel)).slot = x.slot := rfl
    rw [hu, markTested, freedWith_chan, freedWith_setChan, hslot]
    split <;> rfl
  rw [htested] at hkept hcompletes
  refine ⟨fun hmarked => ?_, fun hmarks => ⟨t, hexec, hcompletes hmarks⟩⟩
  rw [hexec, hkept (.inr hmarked)]

/-! ### The timeout (R104, R105, R136) -/

/-- The driven value lost and the comparison UNKNOWN (R104, R136). -/
theorem driveLost_eq {s : State} {c : Chan} {d : Descriptor} (hd : (s.chan c).desc = some d) :
    modComparison c (fun _ _ => .unknown) (modChan c (fun x => { x with driven := none }) s) =
      s.setChan c { s.chan c with driven := none, cmp := forgotten d (s.chan c) } := by
  cases hf : d.feedback <;> simp [modComparison, modChan, forgotten, Comparison.unknown, hd, hf]

theorem timeoutFaults_iff {m : Mode} : timeoutFaults m = true ↔ m ≠ .config ∧ m ≠ .enteringConfig := by
  cases m <;> decide

section
variable {s : State} {f : InFlight} {d : Descriptor} (hd : (s.chan f.channel).desc = some d)
include hd

theorem chargeTimeout_lost
    (h : s.ctl.mode = .config ∨ s.ctl.mode = .enteringConfig ∨ (s.chan f.channel).state = .fault) :
    chargeTimeout f s = s.setChan f.channel
      { s.chan f.channel with driven := none, cmp := forgotten d (s.chan f.channel) } := by
  have hnot : ¬ (timeoutFaults s.ctl.mode = true ∧ (s.chan f.channel).state ≠ .fault) := by
    rw [timeoutFaults_iff]
    rintro ⟨⟨hconfig, hentering⟩, hfault⟩
    rcases h with h | h | h
    · exact hconfig h
    · exact hentering h
    · exact hfault h
  rw [chargeTimeout, if_neg hnot, driveLost_eq hd]

theorem chargeTimeout_faults (hconfig : s.ctl.mode ≠ .config) (hentering : s.ctl.mode ≠ .enteringConfig)
    (hfault : (s.chan f.channel).state ≠ .fault) :
    chargeTimeout f s = faultChannel f.channel .driveTimeout (s.setChan f.channel
      { s.chan f.channel with driven := none, cmp := forgotten d (s.chan f.channel) }) := by
  rw [chargeTimeout, if_pos ⟨timeoutFaults_iff.mpr ⟨hconfig, hentering⟩, hfault⟩, driveLost_eq hd]

end

/-- Settles O51: the mode and the state decide whether the timeout faults the channel. -/
theorem driveTimeoutActsByModeAndState : Obligations.DriveTimeoutActsByModeAndState := by
  intro s f hlive hbus c freed ended
  have hexec := exec_driveTimeout hlive hbus
  let timedOut := recordChannel .driveTimeout c f.value (freeBus s)
  refine ⟨fun hdetached => ?_, fun d hattached hd => ?_⟩
  · refine endDrive_outcome (by exact hlive) ?_
    rw [hexec, if_neg (by simp [hdetached])]
    rfl
  intro lost
  have hdout : (timedOut.chan c).desc = some d := hd
  have hended (w : State) (hw : chargeTimeout f timedOut = w) : ended w := by
    have hcharge : Local c timedOut w := hw ▸ local_chargeTimeout f timedOut
    refine endDrive_outcome ((live_of_pins hcharge.pins).trans hlive) ?_
    rw [hexec, if_pos hattached, ← hw]
  refine ⟨fun h => hended _ (chargeTimeout_lost hdout h), fun hconfig hentering hfault => hended _ ?_⟩
  have hdlost : (lost.chan c).desc = some d := by
    change ((s.setChan c _).chan c).desc = _
    rw [setChan_chan_self]
    exact hd
  rw [chargeTimeout_faults hdout hconfig hentering hfault]
  exact faultChannel_eq hdlost .driveTimeout

end Sys2Proof.Machine
end

section
/-! The reset state is sound (R157, R158), and two laws that a sound state keeps: the exclusion of a group (R79,
R90) and the bus that only drive writes use at governed addresses (R111). -/

namespace Sys2Proof.Machine

/-! ### A part in its reset state -/

/-- Every block but the two ports stands in its reset state, and the management port has nothing to do. -/
structure Blank (s : State) : Prop where
  channels : s.channels = State.reset.channels
  groups : s.groups = State.reset.groups
  down : s.down = State.reset.down
  ctl : s.ctl = State.reset.ctl
  ev : s.ev = State.reset.ev
  pendingSet : s.mgmt.pendingSet = none
  resetArmed : s.mgmt.resetArmed = false
  response : s.mgmt.response = none
  phase : s.mgmt.phase = .closed ∨ s.mgmt.phase = .discarding
  port : s.port.state = .idle ∨ s.port.state = .ending

theorem Blank.chan {s : State} (h : Blank s) (c : Chan) : s.chan c = Channel.empty := by
  rw [State.chan, h.channels]
  exact reset_chan c

theorem Blank.group {s : State} (h : Blank s) (g : Group) : s.group g = GroupState.free := by
  rw [State.group, h.groups]
  simp [State.reset]

theorem Blank.unconfigured {s : State} (h : Blank s) (c : Chan) : (s.chan c).desc = none := by
  rw [h.chan]
  rfl

theorem Blank.groupOf {s : State} (h : Blank s) (c : Chan) : s.groupOf c = none := by
  rw [State.groupOf, h.unconfigured]
  rfl

theorem Blank.mode {s : State} (h : Blank s) : s.ctl.mode = .config := by
  rw [h.ctl]
  rfl

/-- With no channel configured every law of the records holds of nothing. -/
theorem Blank.tableLaw {s : State} (h : Blank s) : TableLaw s := by
  have hnone (law : Descriptor → Channel → Prop) : EachConfigured law s := fun c d hd =>
    nomatch (h.unconfigured c).symm.trans hd
  exact ⟨fun c _ => by rw [h.chan], hnone _, hnone _, hnone _, hnone _, hnone _, hnone _, hnone _⟩

theorem Blank.groupLaw {s : State} (h : Blank s) : GroupLaw s := by
  refine ⟨fun g => ?_, fun c g hg => nomatch (h.groupOf c).symm.trans hg⟩
  rw [h.group]
  exact ⟨.nil, fun _ hw => (nomatch hw), fun _ hh => (nomatch hh), fun _ => rfl⟩

theorem Blank.modeStateLaw {s : State} (h : Blank s) : ModeStateLaw s := by
  intro c
  rw [h.chan]
  exact ⟨nofun, nofun, nofun⟩

theorem Blank.addressLaw {s : State} (h : Blank s) : AddressLaw s := by
  refine ⟨fun c _ _ hsome => ?_, fun c => ?_⟩
  · rw [h.unconfigured c] at hsome
    cases hsome
  · rw [h.unconfigured c]
    nofun

theorem Blank.outsideRunLaw {s : State} (h : Blank s) (hport : s.port.state ≠ .stalled) : OutsideRunLaw s :=
  fun _ => ⟨fun c => by rw [h.chan]; rfl, h.group, hport⟩

theorem Blank.busLaw {s : State} (h : Blank s) : BusLaw s := by
  have hbus : s.down.bus = .idle := by rw [h.down]; rfl
  have hburst : s.down.burst = 0 := by rw [h.down]; rfl
  have htimer : s.down.timer = none := by rw [h.down]; rfl
  have hslot (c : Chan) : (s.chan c).slot = none := by rw [h.chan]; rfl
  refine ⟨fun c _ => hslot c, ?_, ?_, fun _ => ⟨hburst, ?_, hslot⟩, fun _ => hburst, fun f hf => ?_⟩
  · rw [hbus]
    rcases h.port with hs | hs <;> simp [hs]
  · simp [htimer, hbus]
  · rcases h.port with hs | hs <;> simp [hs]
  · rw [Downstream.inFlight, hbus] at hf
    cases hf

theorem Blank.markLaw {s : State} (h : Blank s) : MarkLaw s := by
  have hmark (c : Chan) : (s.chan c).transitionMark = false := by rw [h.chan]; rfl
  refine ⟨?_, fun c hc => nomatch (hmark c).symm.trans hc⟩
  simp [State.noMarks, hmark, h.mode, Mode.isTransition]

theorem Blank.passLaw {s : State} (h : Blank s) : PassLaw s := by
  intro hs
  rcases h.port with h | h <;> rw [h] at hs <;> rcases hs with hs | hs <;> cases hs

/-- The port as a reset can leave it: IDLE, or ENDING at an answer (R125). -/
structure AtRest (p : HostPort) : Prop where
  stallTimer : p.stallTimer = none
  held : p.held = none
  shape : (p.state = .idle ∧ p.cycle = none ∧ p.released = false) ∨
    (p.state = .ending ∧ ∃ k, p.cycle = some k ∧ k.ending.isSome = true)

theorem AtRest.portLaw {s : State} (h : AtRest s.port) : PortLaw s := by
  obtain ⟨htimer, hheld, hshape⟩ := h
  rcases hshape with ⟨hstate, hcycle, hreleased⟩ | ⟨hstate, k, hcycle, hending⟩
  all_goals simp_all [PortLaw]

/-- A part in its reset state is sound when its inputs are taken. -/
theorem Blank.sound {s : State} (h : Blank s) (hport : AtRest s.port) (hinput : InputLaw s) : Sound s := by
  have hstate : s.port.state ≠ .stalled := by rcases h.port with h | h <;> rw [h] <;> nofun
  refine ⟨h.tableLaw, h.modeStateLaw, h.addressLaw, h.groupLaw, h.outsideRunLaw hstate, h.busLaw, h.markLaw,
    hport.portLaw, h.passLaw, ?_, ?_, ?_, ?_, ?_, ?_, fun _ => ?_, hinput⟩
  · rw [HeartbeatLaw, h.ctl]
    nofun
  · rw [SettingsLaw, h.ctl]
    decide
  · intro _ hm
    rw [h.mode] at hm
    rcases hm with hm | hm <;> cases hm
  · rw [MintLaw, h.ev]
    decide
  · rw [EventLaw, h.ev]
    decide
  · exact fun q hq => nomatch h.pendingSet.symm.trans hq
  · exact ⟨h.channels, h.groups, h.down, h.ctl, h.ev, h.pendingSet, h.resetArmed, h.response, h.phase, h.port⟩

theorem reset_blank : Blank State.reset :=
  ⟨rfl, rfl, rfl, rfl, rfl, rfl, rfl, rfl, .inl rfl, .inl rfl⟩

/-- Settles O3: the blocks of `State.reset` are read off, and a part in its reset state is sound. -/
theorem resetStateIsSound : Obligations.ResetStateIsSound := by
  refine ⟨⟨reset_chan, reset_blank.group, rfl, rfl, rfl, rfl, rfl, rfl, rfl, rfl, rfl, rfl, rfl, rfl, rfl⟩, ?_⟩
  exact reset_blank.sound ⟨rfl, rfl, .inl ⟨rfl, rfl, rfl⟩⟩ fun _ => ⟨by decide, rfl⟩

/-! ### What a sound state excludes -/

/-- Settles O8: the group law gives the token to a member in a holding state, and a group has one holder. -/
theorem groupMembersExcludeEachOther : Obligations.GroupMembersExcludeEachOther := by
  intro s hsound g c k hc hk hholds
  obtain ⟨-, -, -, ⟨-, hmember⟩, -⟩ := hsound
  have hholder := (hmember c g hc).1 hholds
  refine ⟨tokenHeld_iff.mpr ⟨g, hc, hholder⟩, fun hne => ⟨?_, ?_⟩⟩ <;> rw [← Bool.not_eq_true]
  · intro hother
    exact hne (Option.some.inj (hholder.symm.trans ((hmember k g hk).1 hother)))
  · intro hheld
    obtain ⟨g', hg', hk'⟩ := tokenHeld_iff.mp hheld
    cases hk.symm.trans hg'
    exact hne (Option.some.inj (hholder.symm.trans hk'))

/-- Settles O9: the write shown is the drive in flight, or the pass-through cycle, whose address the law of
pass-through cycles keeps apart from every target. -/
theorem governedAddressSeesDriveWritesOnly : Obligations.GovernedAddressSeesDriveWritesOnly := by
  intro s hsound
  obtain ⟨-, -, -, -, -, ⟨-, hpassOn, -⟩, -, -, hpass, -⟩ := hsound
  refine ⟨fun a v hcycle hgoverned => ?_, fun k hk hs => hpass hs k hk⟩
  cases hbus : s.down.bus with
  | idle => simp [State.downCycle, hbus] at hcycle
  | drive f =>
    simp only [State.downCycle, hbus, Option.some.injEq, Prod.mk.injEq] at hcycle
    exact ⟨f, rfl, hcycle.1, hcycle.2⟩
  | pass =>
    simp only [State.downCycle, hbus, Option.map_eq_some_iff, Prod.mk.injEq] at hcycle
    obtain ⟨k, hk, rfl, -⟩ := hcycle
    rw [hpass (.inr (hpassOn.mpr hbus)) k hk] at hgoverned
    cases hgoverned

end Sys2Proof.Machine
end

section
/-! The laws of one channel's record (R2 to R7, R14 to R16, R20, R37, R57, R126), and that each change a machine
makes to a record keeps them. -/

namespace Sys2Proof.Machine

/-! ### The laws of a record -/

/-- The laws of the record of a channel configured with `d`, in mode `m`. -/
structure RecordLaw (m : Mode) (d : Descriptor) (x : Channel) : Prop where
  legal : DescriptorLegal d
  kind : KindLaw d x
  target : TargetLaw d x
  field : FieldLaw d x
  timer : TimerLaw x
  comparison : ComparisonLaw d x
  queue : QueueLaw d x
  cadence : x.state.isCadence = true → m = .run
  safed : x.state = .safed → m ≠ .run
  fault : x.state = .fault → m ≠ .config
  idle : m ≠ .run → x.queue = []

/-- The laws of a slot of the channel table in mode `m`. -/
structure SlotLaw (m : Mode) (x : Channel) : Prop where
  unconfigured : x.desc = none → x = { Channel.empty with lastFault := x.lastFault }
  configured : ∀ d, x.desc = some d → RecordLaw m d x

theorem SlotLaw.of_desc {m : Mode} {d : Descriptor} {x : Channel} (hd : x.desc = some d)
    (h : RecordLaw m d x) : SlotLaw m x where
  unconfigured hn := by rw [hd] at hn; cases hn
  configured e he := by
    rw [hd] at he
    cases he
    exact h

/-! ### States and kinds -/

section
variable {m : Mode} {d : Descriptor} {x : Channel}

/-- A HOLD channel in RUN is in one of six states. -/
theorem RecordLaw.hold_state {p : HoldPart} (h : RecordLaw .run d x) (hk : d.kind = .hold p) :
    x.state = .resting ∨ x.state = .waiting ∨ x.state = .holding ∨ x.state = .held ∨
      x.state = .recovering ∨ x.state = .fault := by
  obtain ⟨hkind, -⟩ := h.kind
  have hsafed := h.safed
  rw [hk] at hkind
  cases hs : x.state <;> rw [hs] at hkind hsafed
  case unconfigured | mark | space | pausing => exact nomatch (show false = true from hkind)
  case safed => exact absurd rfl (hsafed rfl)
  all_goals simp

/-- A TRAIN channel in RUN is in one of seven states. -/
theorem RecordLaw.train_state {p : TrainPart} (h : RecordLaw .run d x) (hk : d.kind = .train p) :
    x.state = .resting ∨ x.state = .waiting ∨ x.state = .mark ∨ x.state = .space ∨
      x.state = .pausing ∨ x.state = .recovering ∨ x.state = .fault := by
  obtain ⟨hkind, -⟩ := h.kind
  have hsafed := h.safed
  rw [hk] at hkind
  cases hs : x.state <;> rw [hs] at hkind hsafed
  case unconfigured | holding | held => exact nomatch (show false = true from hkind)
  case safed => exact absurd rfl (hsafed rfl)
  all_goals simp

/-! ### Changes outside the cadence -/

/-- Pending drives and transition marks are in no law of the record. -/
theorem RecordLaw.slot (h : RecordLaw m d x) (v : Option Byte) (b : Bool) :
    RecordLaw m d { x with slot := v, transitionMark := b } :=
  ⟨h.legal, h.kind, h.target, h.field, h.timer, h.comparison, h.queue, h.cadence, h.safed, h.fault, h.idle⟩

theorem RecordLaw.withSlot (h : RecordLaw m d x) (v : Option Byte) :
    RecordLaw m d { x with slot := v } := h.slot v x.transitionMark

/-- A change of the driven value and the comparison by the law that ties the two (R126, R127). -/
theorem RecordLaw.compared (h : RecordLaw m d x) {v : Option Byte} {k : Option Comparison}
    (hk : ComparisonLaw d { x with driven := v, cmp := k }) :
    RecordLaw m d { x with driven := v, cmp := k } :=
  ⟨h.legal, h.kind, h.target, h.field, h.timer, hk, h.queue, h.cadence, h.safed, h.fault, h.idle⟩

/-- A change of the queue by its law (R20). -/
theorem RecordLaw.requeued (h : RecordLaw .run d x) {q : List Entry}
    (hq : QueueLaw d { x with queue := q }) : RecordLaw .run d { x with queue := q } :=
  ⟨h.legal, h.kind, h.target, h.field, h.timer, h.comparison, hq, h.cadence, h.safed, h.fault,
    fun hm => absurd rfl hm⟩

/-- A change of state, target, requested value, marks and timers within a cadence, by the laws of those; the
comparison and the queue play no part. -/
theorem RecordLaw.moved {y : Channel} (h : RecordLaw .run d x)
    (hsame : (y.cmp, y.driven, y.queue) = (x.cmp, x.driven, x.queue))
    (hcadence : y.state.isCadence = true) (hkind : KindLaw d y) (htarget : TargetLaw d y)
    (hfield : FieldLaw d y) (htimer : TimerLaw y) : RecordLaw .run d y := by
  simp only [Prod.mk.injEq] at hsame
  obtain ⟨hcmp, hdriven, hqueue⟩ := hsame
  have hfault : y.state ≠ .fault := fun e => by rw [e] at hcadence; cases hcadence
  have hsafed : y.state ≠ .safed := fun e => by rw [e] at hcadence; cases hcadence
  have hq := h.queue
  refine ⟨h.legal, hkind, htarget, hfield, htimer, ?_, ?_, fun _ => rfl, fun e => absurd e hsafed,
    fun e => absurd e hfault, fun hm => absurd rfl hm⟩
  · rw [ComparisonLaw, hcmp, hdriven]
    exact h.comparison
  · rw [QueueLaw, hqueue]
    exact ⟨hq.1, hq.2.1, hq.2.2.1, fun e => absurd e hfault⟩

end

/-! ### The HOLD machine -/

section
variable {d : Descriptor} {x : Channel} {p : HoldPart} (h : RecordLaw .run d x) (hk : d.kind = .hold p)
include h hk

/-- HOLDING at a value other than rest (R40, R43, R49). -/
theorem RecordLaw.holdingAt {v : Byte} (hv : v ≠ d.rest)
    (hs : x.state = .resting ∨ x.state = .waiting ∨ x.state = .held) :
    RecordLaw .run d (holdingAt v x) := by
  have hfield := h.field
  have htimer := h.timer
  refine h.moved rfl rfl ⟨by rw [hk]; rfl, nofun⟩ ?_ ?_ ?_ <;>
    rcases hs with hs | hs | hs <;> simp_all [Machine.holdingAt, TargetLaw, FieldLaw, TimerLaw]

/-- WAITING for a value other than rest, in a group (R40, R41). -/
theorem RecordLaw.holdWaiting {v : Byte} (hv : v ≠ d.rest) (hg : d.group.isSome = true)
    (hs : x.state = .resting ∨ x.state = .waiting) :
    RecordLaw .run d { x with state := .waiting, requested := some v } := by
  have htarget := h.target
  have hfield := h.field
  have htimer := h.timer
  refine h.moved rfl rfl ⟨by rw [hk]; rfl, fun _ => hg⟩ ?_ ?_ ?_ <;>
    rcases hs with hs | hs <;> simp_all [TargetLaw, FieldLaw, TimerLaw, KindPart.trainPart]

/-- RECOVERING after a release (R48, R50). -/
theorem RecordLaw.releasedTo (hs : x.state = .held) : RecordLaw .run d (releasedTo d.rest x) := by
  have hfield := h.field
  have htimer := h.timer
  refine h.moved rfl rfl ⟨by rw [hk]; rfl, nofun⟩ ?_ ?_ ?_ <;>
    simp_all [Machine.releasedTo, TargetLaw, FieldLaw, TimerLaw]

/-- HELD (R46): here the max-hold timer may run without the min-hold timer. -/
theorem RecordLaw.heldNow (hs : x.state = .holding) (t : Option Nat) :
    RecordLaw .run d { x with state := .held, minHold := none, maxHold := t } := by
  have htarget := h.target
  have hfield := h.field
  have htimer := h.timer
  refine h.moved rfl rfl ⟨by rw [hk]; rfl, nofun⟩ ?_ ?_ ?_ <;> simp_all [TargetLaw, FieldLaw, TimerLaw]

/-- The two timers of HOLDING started together (R45): the maximum is not below the minimum (R7). -/
theorem RecordLaw.startHold (hs : x.state = .holding) (hmin : p.minHold ≠ 0) :
    RecordLaw .run d
      { x with minHold := startTimer p.minHold.toNat, maxHold := startTimer p.maxHold.toNat } := by
  have htarget := h.target
  have hfield := h.field
  have htimer := h.timer
  have hpos : p.minHold.toNat ≠ 0 := fun e => hmin (BitVec.eq_of_toNat_eq e)
  have horder : p.maxHold.toNat = 0 ∨ p.minHold.toNat ≤ p.maxHold.toNat :=
    (h.legal.1 p (by rw [hk]; rfl)).imp_left fun e => by rw [e]; rfl
  refine h.moved rfl (by simp [hs, ChanState.isCadence]) h.kind htarget hfield ?_
  by_cases hmax : p.maxHold.toNat = 0
  · simp_all [TimerLaw, startTimer]
  · simp_all [TimerLaw, startTimer]

/-- A HOLD channel at rest after its recovery or its withdrawal (R41, R53). -/
theorem RecordLaw.holdRest (hs : x.state = .recovering ∧ x.recovery = none ∨ x.state = .waiting) :
    RecordLaw .run d { x with state := .resting, target := some d.rest, requested := none } := by
  have hfield := h.field
  have htimer := h.timer
  refine h.moved rfl rfl ⟨by rw [hk]; rfl, nofun⟩ ?_ ?_ ?_ <;>
    rcases hs with ⟨hs, hr⟩ | hs <;> simp_all [TargetLaw, FieldLaw, TimerLaw]

end

/-- The recovery timer started or stopped (R45, R64). -/
theorem RecordLaw.recoveryTimer {d : Descriptor} {x : Channel} (h : RecordLaw .run d x)
    (hs : x.state = .recovering) (t : Option Nat) : RecordLaw .run d { x with recovery := t } := by
  obtain ⟨hmin, hmax, hmark, hspace, hpause, -, horder⟩ := h.timer
  exact h.moved rfl (by simp [hs, ChanState.isCadence]) h.kind h.target h.field
    ⟨hmin, hmax, hmark, hspace, hpause, fun _ => hs, horder⟩

/-! ### The TRAIN machine -/

section
variable {d : Descriptor} {x : Channel} {p : TrainPart} (h : RecordLaw .run d x) (hk : d.kind = .train p)
include h hk

/-- MARK with a train of 1 to 63 marks (R60, R62). -/
theorem RecordLaw.markingWith {n : Nat} (hn : 1 ≤ n) (hn' : n ≤ 63)
    (hs : x.state = .resting ∨ x.state = .waiting) : RecordLaw .run d (markingWith p n x) := by
  have hfield := h.field
  have htimer := h.timer
  have hpos : n ≠ 0 := by omega
  refine h.moved rfl rfl ⟨by rw [hk]; rfl, nofun⟩ ?_ ?_ ?_ <;>
    rcases hs with hs | hs <;>
    simp_all [Machine.markingWith, TargetLaw, FieldLaw, TimerLaw, KindPart.holdPart, KindPart.trainPart]

/-- WAITING with a count of 1 to 63, in a group (R60). -/
theorem RecordLaw.trainWaiting {n : Byte} (hn : 1 ≤ n.toNat) (hn' : n.toNat ≤ 63)
    (hg : d.group.isSome = true) (hs : x.state = .resting) :
    RecordLaw .run d { x with state := .waiting, requested := some n } := by
  have htarget := h.target
  have hfield := h.field
  have htimer := h.timer
  refine h.moved rfl rfl ⟨by rw [hk]; rfl, fun _ => hg⟩ ?_ ?_ ?_ <;>
    simp_all [TargetLaw, FieldLaw, TimerLaw, KindPart.holdPart]

/-- PAUSING with its timer running (R61). -/
theorem RecordLaw.startPause (hs : x.state = .resting) {t : Option Nat} (ht : t.isSome = true) :
    RecordLaw .run d { x with state := .pausing, pauseTimer := t } := by
  have htarget := h.target
  have hfield := h.field
  have htimer := h.timer
  refine h.moved rfl rfl ⟨by rw [hk]; rfl, nofun⟩ ?_ ?_ ?_ <;>
    simp_all [TargetLaw, FieldLaw, TimerLaw]

/-- RECOVERING after the last mark (R65). -/
theorem RecordLaw.markEnded (hs : x.state = .mark) : RecordLaw .run d (markEnded d.rest x) := by
  have hfield := h.field
  have htimer := h.timer
  refine h.moved rfl rfl ⟨by rw [hk]; rfl, nofun⟩ ?_ ?_ ?_ <;>
    simp_all [Machine.markEnded, TargetLaw, FieldLaw, TimerLaw]

/-- RECOVERING after an abort in SPACE (R71). -/
theorem RecordLaw.spaceAborted (hs : x.state = .space) (t : Option Nat) :
    RecordLaw .run d
      { x with
        state := .recovering, marks := 0, trainCount := 0, abortPending := false, spaceTimer := none,
        recovery := t } := by
  have htarget := h.target
  have hfield := h.field
  have htimer := h.timer
  refine h.moved rfl rfl ⟨by rw [hk]; rfl, nofun⟩ ?_ ?_ ?_ <;>
    simp_all [TargetLaw, FieldLaw, TimerLaw]

/-- SPACE with marks to come (R65). -/
theorem RecordLaw.enterSpace (hs : x.state = .mark) (habort : x.abortPending = false) (hmore : 2 ≤ x.marks)
    (v : Option Byte) :
    RecordLaw .run d
      { x with
        state := .space, target := some d.rest, marks := x.marks - 1, spaceTimer := none,
        markTimer := none, slot := v } := by
  have hfield := h.field
  have htimer := h.timer
  have hpos : x.marks - 1 ≠ 0 := by omega
  have hle : x.marks - 1 ≤ 63 := by
    obtain ⟨-, -, -, -, hmarks, -⟩ := hfield
    omega
  refine h.moved rfl rfl ⟨by rw [hk]; rfl, nofun⟩ ?_ ?_ ?_ <;>
    simp_all [TargetLaw, FieldLaw, TimerLaw]

/-- MARK again after a space (R66). -/
theorem RecordLaw.endSpace (hs : x.state = .space) (v : Option Byte) :
    RecordLaw .run d
      { x with
        state := .mark, target := some p.markValue, abortPending := false, spaceTimer := none,
        markTimer := none, slot := v } := by
  have hfield := h.field
  have htimer := h.timer
  refine h.moved rfl rfl ⟨by rw [hk]; rfl, nofun⟩ ?_ ?_ ?_ <;>
    simp_all [TargetLaw, FieldLaw, TimerLaw, KindPart.trainPart]

/-- RESTING after a pause (R61, R72). -/
theorem RecordLaw.pauseEnded (hs : x.state = .pausing) :
    RecordLaw .run d { x with state := .resting, pauseTimer := none } := by
  have htarget := h.target
  have hfield := h.field
  have htimer := h.timer
  refine h.moved rfl rfl ⟨by rw [hk]; rfl, nofun⟩ ?_ ?_ ?_ <;>
    simp_all [TargetLaw, FieldLaw, TimerLaw]

/-- RESTING after a withdrawal (R72). -/
theorem RecordLaw.trainWithdrawn (hs : x.state = .waiting) :
    RecordLaw .run d { x with state := .resting, requested := none } := by
  have htarget := h.target
  have hfield := h.field
  have htimer := h.timer
  refine h.moved rfl rfl ⟨by rw [hk]; rfl, nofun⟩ ?_ ?_ ?_ <;>
    simp_all [TargetLaw, FieldLaw, TimerLaw]

/-- RESTING after a recovery (R68). -/
theorem RecordLaw.trainRest (hs : x.state = .recovering) (hr : x.recovery = none) :
    RecordLaw .run d { x with state := .resting } := by
  have htarget := h.target
  have hfield := h.field
  have htimer := h.timer
  refine h.moved rfl rfl ⟨by rw [hk]; rfl, nofun⟩ ?_ ?_ ?_ <;>
    simp_all [TargetLaw, FieldLaw, TimerLaw]

end

section
variable {d : Descriptor} {x : Channel} (h : RecordLaw .run d x)
include h

/-- The mark timer started (R64). -/
theorem RecordLaw.startMark (hs : x.state = .mark) (t : Option Nat) :
    RecordLaw .run d { x with markTimer := t } := by
  obtain ⟨hmin, hmax, -, hspace, hpause, hrecovery, horder⟩ := h.timer
  exact h.moved rfl (by simp [hs, ChanState.isCadence]) h.kind h.target h.field
    ⟨hmin, hmax, fun _ => hs, hspace, hpause, hrecovery, horder⟩

/-- The space timer started (R64). -/
theorem RecordLaw.startSpace (hs : x.state = .space) (t : Option Nat) :
    RecordLaw .run d { x with spaceTimer := t } := by
  obtain ⟨hmin, hmax, hmark, -, hpause, hrecovery, horder⟩ := h.timer
  exact h.moved rfl (by simp [hs, ChanState.isCadence]) h.kind h.target h.field
    ⟨hmin, hmax, hmark, fun _ => hs, hpause, hrecovery, horder⟩

/-- An abort pending in MARK (R70). -/
theorem RecordLaw.abortPending (hs : x.state = .mark) :
    RecordLaw .run d { x with abortPending := true } := by
  have hfield := h.field
  exact h.moved rfl (by simp [hs, ChanState.isCadence]) h.kind h.target (by simp_all [FieldLaw]) h.timer

end

/-! ### The comparison record (R126, R127) -/

/-- A comparison record that fits the driven value, its timers running exactly in their phases. -/
structure ComparisonFits (f : FeedbackPart) (driven : Option Byte) (k : Comparison) : Prop where
  unknown : k.phase = .unknown ↔ k.expected = none
  settle : k.settle.isSome = true ↔ k.phase = .settling
  filter : k.filter.isSome = true ↔ k.phase = .filtering
  expected : k.expected ≠ none → k.expected = driven.map (expectedLevel f)

theorem comparisonLaw_iff {d : Descriptor} {x : Channel} :
    ComparisonLaw d x ↔ (x.cmp.isSome = true ↔ d.feedback.isSome = true) ∧
      ∀ f, d.feedback = some f → ∀ k, x.cmp = some k → ComparisonFits f x.driven k :=
  ⟨fun ⟨hsome, h⟩ => ⟨hsome, fun f hf k hk => ⟨(h f hf k hk).1, (h f hf k hk).2.1, (h f hf k hk).2.2.1,
      (h f hf k hk).2.2.2⟩⟩,
    fun ⟨hsome, h⟩ => ⟨hsome, fun f hf k hk => ⟨(h f hf k hk).unknown, (h f hf k hk).settle,
      (h f hf k hk).filter, (h f hf k hk).expected⟩⟩⟩

/-- The comparison of a supervised channel changed by an operation that keeps it fitting. -/
theorem ComparisonLaw.changed {d : Descriptor} {x y : Channel} {op : FeedbackPart → Comparison → Comparison}
    (h : ComparisonLaw d x)
    (hy : y.cmp = match d.feedback with
      | some f => x.cmp.map (op f)
      | none => x.cmp)
    (hop : ∀ f k, d.feedback = some f → x.cmp = some k → ComparisonFits f x.driven k →
      ComparisonFits f y.driven (op f k)) :
    ComparisonLaw d y := by
  rw [comparisonLaw_iff] at h ⊢
  obtain ⟨hsome, hfits⟩ := h
  cases hf : d.feedback with
  | none =>
    rw [hf] at hy hsome
    exact ⟨by rw [hy, hsome], fun f hf' => nomatch hf'⟩
  | some f =>
    rw [hf] at hy hsome
    refine ⟨by simpa [hy] using hsome, fun f' hf' k hk => ?_⟩
    cases hf'
    rw [hy, Option.map_eq_some_iff] at hk
    obtain ⟨k', hk', rfl⟩ := hk
    exact hop f k' hf hk' (hfits f hf k' hk')

theorem tickTimer_isSome (t : Option Nat) : (tickTimer t).isSome = t.isSome := by
  cases t <;> rfl

section
variable {f : FeedbackPart} {v : Option Byte} {k : Comparison}

theorem ComparisonFits.of_unknown (f : FeedbackPart) (v : Option Byte) : ComparisonFits f v .unknown := by
  constructor <;> simp [Comparison.unknown]

theorem ComparisonFits.of_settling (hf : f.settleTime ≠ 0) (v : Byte) :
    ComparisonFits f (some v) (.settling f (expectedLevel f v)) := by
  have hpos : f.settleTime.toNat ≠ 0 := fun e => hf (BitVec.eq_of_toNat_eq e)
  constructor <;> simp [Comparison.settling, startTimer, hpos]

theorem ComparisonFits.toAgree (h : ComparisonFits f v k) (hk : k.phase ≠ .unknown) :
    ComparisonFits f v k.toAgree := by
  obtain ⟨hunknown, -, -, hexpected⟩ := h
  refine ⟨?_, ?_, ?_, hexpected⟩ <;> simp_all [Comparison.toAgree]

theorem ComparisonFits.toFiltering (h : ComparisonFits f v k) (hk : k.phase ≠ .unknown) :
    ComparisonFits f v k.toFiltering := by
  obtain ⟨hunknown, -, -, hexpected⟩ := h
  refine ⟨?_, ?_, ?_, hexpected⟩ <;> simp_all [Comparison.toFiltering, startTimer, Config.filterTime]

theorem ComparisonFits.settled (h : ComparisonFits f v k) (hk : k.phase = .settling) (b : Bool) :
    ComparisonFits f v (k.settled b) := by
  have hphase : k.phase ≠ .unknown := by simp [hk]
  unfold Comparison.settled
  split
  · exact h.toAgree hphase
  · exact h.toFiltering hphase

theorem ComparisonFits.sensed (h : ComparisonFits f v k) (b : Bool) : ComparisonFits f v (k.sensed b) := by
  unfold Comparison.sensed
  split
  case h_1 hk =>
    split
    · exact h
    · exact h.toFiltering (by simp [hk])
  case h_2 hk | h_3 hk =>
    split
    · exact h.toAgree (by simp [hk])
    · exact h
  all_goals exact h

theorem ComparisonFits.confirmed (h : ComparisonFits f v k) (hk : k.phase = .filtering) :
    ComparisonFits f v { k with phase := .confirmed, filter := none } := by
  obtain ⟨hunknown, hsettle, -, hexpected⟩ := h
  refine ⟨?_, ?_, ?_, hexpected⟩ <;> simp_all

/-- The expected level kept at a completion is that of the value completed (R128). -/
theorem ComparisonFits.completion (h : ComparisonFits f v k) (hf : f.settleTime ≠ 0) (w : Byte) :
    ComparisonFits f (some w) (k.completion f w) := by
  have hkept (hsame : k.expected = some (expectedLevel f w)) : ComparisonFits f (some w) k :=
    ⟨h.unknown, h.settle, h.filter, fun _ => by rw [hsame]; rfl⟩
  unfold Comparison.completion
  dsimp only
  split
  · exact .of_settling hf w
  case h_2 | h_3 | h_4 =>
    split
    · exact hkept ‹_›
    · exact .of_settling hf w
  case h_5 hk =>
    split
    · exact (hkept ‹_›).toFiltering (by simp [hk])
    · exact .of_settling hf w

theorem ComparisonFits.tick (h : ComparisonFits f v k) :
    ComparisonFits f v { k with settle := tickTimer k.settle, filter := tickTimer k.filter } := by
  obtain ⟨hunknown, hsettle, hfilter, hexpected⟩ := h
  exact ⟨hunknown, by rwa [tickTimer_isSome], by rwa [tickTimer_isSome], hexpected⟩

end

/-! ### Changes of the mode (R54, R55, R75, R76, R144 to R150) -/

section
variable {m m' : Mode} {d : Descriptor} {x y : Channel}

theorem QueueLaw.empty (d : Descriptor) (hqueue : y.queue = []) : QueueLaw d y := by
  simp [QueueLaw, hqueue, noEqualNeighbours]

/-- A channel out of its cadence, in SAFED, FAULT or RESTING with an empty queue. -/
theorem RecordLaw.left (hlegal : DescriptorLegal d) (hcmp : ComparisonLaw d y)
    (hstate : y.state = .safed ∧ y.target = some d.safe ∧ m' ≠ .run ∨
      y.state = .fault ∧ y.target = some d.safe ∧ m' ≠ .config ∨
      y.state = .resting ∧ y.target = some d.rest ∧ m' = .run)
    (hstopped : (y.requested, y.marks, y.trainCount, y.abortPending, y.minHold, y.maxHold, y.markTimer,
      y.spaceTimer, y.pauseTimer, y.recovery) = (none, 0, 0, false, none, none, none, none, none, none))
    (hstuck : y.stuckReported = true → y.state = .fault) (hqueue : y.queue = []) :
    RecordLaw m' d y := by
  simp only [Prod.mk.injEq] at hstopped
  obtain ⟨hrequested, hmarks, hcount, habort, hmin, hmax, hmark, hspace, hpause, hrecovery⟩ := hstopped
  have hkind : KindLaw d y := by
    rcases hstate with ⟨hs, -⟩ | ⟨hs, -⟩ | ⟨hs, -⟩ <;> refine ⟨?_, by simp [hs]⟩ <;>
      cases d.kind <;> rw [hs] <;> rfl
  have htarget : TargetLaw d y := by
    rcases hstate with ⟨hs, ht, -⟩ | ⟨hs, ht, -⟩ | ⟨hs, ht, -⟩ <;> simp [TargetLaw, hs, ht]
  have htimer : TimerLaw y := by
    rcases hstate with ⟨hs, -⟩ | ⟨hs, -⟩ | ⟨hs, -⟩ <;>
      simp [TimerLaw, hs, hmin, hmax, hmark, hspace, hpause, hrecovery]
  have hfield : FieldLaw d y := by
    rcases hstate with ⟨hs, -⟩ | ⟨hs, -⟩ | ⟨hs, -⟩ <;>
      simp_all [FieldLaw]
  refine ⟨hlegal, hkind, htarget, hfield, htimer, hcmp, .empty d hqueue, ?_, ?_, ?_, fun _ => hqueue⟩ <;>
    rcases hstate with ⟨hs, -, hm⟩ | ⟨hs, -, hm⟩ | ⟨hs, -, hm⟩ <;> simp [hs, hm, ChanState.isCadence]

/-- A mode that a channel out of its cadence, with an empty queue, can stand in. -/
theorem RecordLaw.inMode (h : RecordLaw m d x) (hout : x.state.isCadence = false)
    (hsafed : x.state = .safed → m' ≠ .run) (hfault : x.state = .fault → m' ≠ .config)
    (hqueue : x.queue = []) : RecordLaw m' d x :=
  ⟨h.legal, h.kind, h.target, h.field, h.timer, h.comparison, h.queue,
    fun hc => absurd (hout.symm.trans hc) (by simp), hsafed, hfault, fun _ => hqueue⟩

end

/-! ### The timebase (R155) -/

theorem TimerLaw.tick {x : Channel} (h : TimerLaw x) : TimerLaw x.tick := by
  obtain ⟨hmin, hmax, hmark, hspace, hpause, hrecovery, horder⟩ := h
  refine ⟨?_, ?_, ?_, ?_, ?_, ?_, fun hs m hm => ?_⟩
  all_goals simp only [Channel.tick, tickTimer_isSome]
  · exact hmin
  · exact hmax
  · exact hmark
  · exact hspace
  · exact hpause
  · exact hrecovery
  · simp only [Channel.tick, tickTimer, Option.map_eq_some_iff] at hm
    obtain ⟨m', hm', rfl⟩ := hm
    have := horder hs m' hm'
    simp only [Option.any_eq_true, decide_eq_true_eq] at this
    obtain ⟨n, hn, hle⟩ := this
    simp only [tickTimer, hn, Option.map_some, Option.any_some, decide_eq_true_eq]
    omega

theorem RecordLaw.tick {m : Mode} {d : Descriptor} {x : Channel} (h : RecordLaw m d x) :
    RecordLaw m d x.tick := by
  refine ⟨h.legal, h.kind, h.target, h.field, h.timer.tick, ?_, h.queue, h.cadence, h.safed, h.fault, h.idle⟩
  obtain ⟨hsome, hfits⟩ := comparisonLaw_iff.mp h.comparison
  refine comparisonLaw_iff.mpr ⟨by simpa [Channel.tick] using hsome, fun f hf k hk => ?_⟩
  simp only [Channel.tick, Option.map_eq_some_iff] at hk
  obtain ⟨k', hk', rfl⟩ := hk
  exact (hfits f hf k' hk').tick

/-! ### A channel just configured (R10, R13) -/

theorem slotLaw_configured {d : Descriptor} (hd : DescriptorLegal d) (x : Channel) :
    SlotLaw .config (configured d x) := by
  refine .of_desc rfl (.left hd ?_ (.inl ⟨rfl, rfl, by decide⟩) rfl (fun h => nomatch h) rfl)
  refine comparisonLaw_iff.mpr ⟨by simp [configured], fun f hf k hk => ?_⟩
  simp only [configured, hf, Option.map_some, Option.some.injEq] at hk
  rw [← hk]
  exact .of_unknown f _

theorem slotLaw_unconfigured {m : Mode} {x : Channel} (h : x = { Channel.empty with lastFault := x.lastFault }) :
    SlotLaw m x where
  unconfigured _ := h
  configured d hd := by
    rw [h] at hd
    cases hd

end Sys2Proof.Machine
end

section
/-! The laws of the channel table, the groups and the held write together (R20, R28, R78, R79, R141), while an
event is half done: of some channels the place in their group and the held write may then be open. -/

namespace Sys2Proof.Machine

/-! ### The groups (R78, R79) -/

/-- The shape of a group: distinct waiters, none of them the holder, members of the group, and none without a
holder. -/
structure GroupShape (s : State) (g : Group) : Prop where
  nodup : (s.group g).waiters.Nodup
  free : (s.group g).holder = none → (s.group g).waiters = []
  apart : ∀ h, (s.group g).holder = some h → h ∉ (s.group g).waiters
  waiters : ∀ k ∈ (s.group g).waiters, s.groupOf k = some g
  holder : ∀ h, (s.group g).holder = some h → s.groupOf h = some g

/-- The state of a channel says its place in its group (R16, R79). -/
structure Placed (s : State) (k : Chan) : Prop where
  waits : ∀ g, s.groupOf k = some g → (k ∈ (s.group g).waiters ↔ (s.chan k).state = .waiting)
  holds : ∀ g, s.groupOf k = some g →
    ((s.group g).holder = some k ↔ (s.chan k).state.holdsToken = true)

theorem groupLaw_iff {s : State} : GroupLaw s ↔ (∀ g, GroupShape s g) ∧ ∀ k, Placed s k := by
  constructor
  · rintro ⟨hgroup, hmember⟩
    have happart (g : Group) (h : Chan) (hh : (s.group g).holder = some h) : h ∉ (s.group g).waiters := by
      obtain ⟨-, hwaiting, hholding, -⟩ := hgroup g
      intro hw
      have hstate := (hholding h hh).2
      rw [(hwaiting h hw).2] at hstate
      cases hstate
    refine ⟨fun g => ?_, fun k => ⟨fun g hg => ?_, fun g hg => ?_⟩⟩
    · obtain ⟨hnodup, hwaiting, hholding, hfree⟩ := hgroup g
      exact ⟨hnodup, hfree, happart g, fun k hk => (hwaiting k hk).1, fun h hh => (hholding h hh).1⟩
    · obtain ⟨-, hwaiting, -, -⟩ := hgroup g
      exact ⟨fun hk => (hwaiting k hk).2, (hmember k g hg).2⟩
    · obtain ⟨-, -, hholding, -⟩ := hgroup g
      exact ⟨fun hk => (hholding k hk).2, (hmember k g hg).1⟩
  · rintro ⟨hshape, hplaced⟩
    refine ⟨fun g => ⟨(hshape g).nodup, fun w hw => ?_, fun h hh => ?_, (hshape g).free⟩, fun k g hg => ?_⟩
    · have hg := (hshape g).waiters w hw
      exact ⟨hg, ((hplaced w).waits g hg).mp hw⟩
    · have hg := (hshape g).holder h hh
      exact ⟨hg, ((hplaced h).holds g hg).mp hh⟩
    · exact ⟨((hplaced k).holds g hg).mpr, ((hplaced k).waits g hg).mpr⟩

/-- A channel without a group has no place to keep. -/
theorem Placed.of_ungrouped {s : State} {k : Chan} (h : s.groupOf k = none) : Placed s k :=
  ⟨fun _ hg => (nomatch h.symm.trans hg), fun _ hg => (nomatch h.symm.trans hg)⟩

/-! ### The held write (R28, R29) -/

/-- A write held on the queue of `k` finds it full, and `k` not in FAULT. -/
def HeldFull (s : State) (k : Chan) : Prop :=
  ∀ h, s.port.held = some h → h.channel = k →
    (s.chan k).state ≠ .fault ∧ (s.chan k).queue.length = Config.queueDepth

theorem HeldFull.of_none {s : State} {k : Chan} (h : s.port.held = none) : HeldFull s k :=
  fun _ hw => (nomatch h.symm.trans hw)

/-! ### The laws inside an event -/

/-- The laws of the channel table, the groups and the held write, but for the places and the full queues of the
channels in `out`. -/
structure Lawful (out : Set Chan) (s : State) : Prop where
  slots : ∀ k, SlotLaw s.ctl.mode (s.chan k)
  shape : ∀ g, GroupShape s g
  placed : ∀ k, k ∉ out → Placed s k
  free : s.ctl.mode ≠ .run → ∀ g, s.group g = GroupState.free
  stalled : s.port.held.isSome = true → s.port.state = .stalled
  heldRun : ∀ h, s.port.held = some h →
    s.ctl.mode = .run ∧ (s.chan h.channel).desc.any (·.policy == .stall) = true
  full : ∀ k, k ∉ out → HeldFull s k

theorem groupOf_congr {s t : State} {k : Chan} (h : (t.chan k).desc = (s.chan k).desc) :
    t.groupOf k = s.groupOf k := by
  rw [State.groupOf, State.groupOf, h]

theorem GroupShape.congr {s t : State} {g : Group} (h : GroupShape s g) (hgroup : t.group g = s.group g)
    (hdesc : ∀ k, (t.chan k).desc = (s.chan k).desc) : GroupShape t g := by
  obtain ⟨hnodup, hfree, hapart, hwaiters, hholder⟩ := h
  constructor <;> rw [hgroup]
  · exact hnodup
  · exact hfree
  · exact hapart
  · exact fun k hk => (groupOf_congr (hdesc k)).trans (hwaiters k hk)
  · exact fun k hk => (groupOf_congr (hdesc k)).trans (hholder k hk)

/-- A place is kept with the membership and the class of the state. -/
theorem Placed.congr {s t : State} {k : Chan} (h : Placed s k) (hdesc : (t.chan k).desc = (s.chan k).desc)
    (hwaiter : ∀ g, k ∈ (t.group g).waiters ↔ k ∈ (s.group g).waiters)
    (hholder : ∀ g, (t.group g).holder = some k ↔ (s.group g).holder = some k)
    (hwaits : (t.chan k).state = .waiting ↔ (s.chan k).state = .waiting)
    (hholds : (t.chan k).state.holdsToken = (s.chan k).state.holdsToken) : Placed t k where
  waits g hg := by rw [hwaiter, hwaits, h.waits g (groupOf_congr hdesc ▸ hg)]
  holds g hg := by rw [hholder, hholds, h.holds g (groupOf_congr hdesc ▸ hg)]

theorem Lawful.mono {A B : Set Chan} {s : State} (h : Lawful A s) (hAB : A ⊆ B) : Lawful B s :=
  ⟨h.slots, h.shape, fun k hk => h.placed k fun hA => hk (hAB hA), h.free, h.stalled, h.heldRun,
    fun k hk => h.full k fun hA => hk (hAB hA)⟩

theorem Lawful.opened {s : State} (h : Lawful ∅ s) (A : Set Chan) : Lawful A s := h.mono (Set.empty_subset A)

/-- A channel whose place and whose held write are right again is out no more. -/
theorem Lawful.settled {c : Chan} {A : Set Chan} {s : State} (h : Lawful (insert c A) s) (hplaced : Placed s c)
    (hfull : HeldFull s c) : Lawful A s := by
  refine ⟨h.slots, h.shape, fun k hk => ?_, h.free, h.stalled, h.heldRun, fun k hk => ?_⟩ <;> by_cases hc : k = c
  · exact hc ▸ hplaced
  · exact h.placed k fun hA => hA.elim hc hk
  · exact hc ▸ hfull
  · exact h.full k fun hA => hA.elim hc hk

theorem Lawful.closed {c : Chan} {s : State} (h : Lawful {c} s) (hplaced : Placed s c) (hfull : HeldFull s c) :
    Lawful ∅ s := by
  rw [← insert_empty_eq] at h
  exact h.settled hplaced hfull

/-- An operation that leaves the table and the groups alone, and a held write alone or answered. -/
theorem Lawful.of_same {A : Set Chan} {s t : State} (h : Lawful A s)
    (hsame : (t.channels, t.groups, t.ctl.mode) = (s.channels, s.groups, s.ctl.mode))
    (hport : t.port = s.port ∨ t.port.held = none) : Lawful A t := by
  simp only [Prod.mk.injEq] at hsame
  obtain ⟨hchannels, hgroups, hmode⟩ := hsame
  have hchan (k : Chan) : t.chan k = s.chan k := by rw [State.chan, State.chan, hchannels]
  have hgroup (g : Group) : t.group g = s.group g := by rw [State.group, State.group, hgroups]
  have hdesc (k : Chan) : (t.chan k).desc = (s.chan k).desc := by rw [hchan]
  have hheld (w : HeldWrite) (hw : t.port.held = some w) : t.port = s.port :=
    hport.resolve_right fun hnone => nomatch hnone.symm.trans hw
  refine ⟨fun k => ?_, fun g => (h.shape g).congr (hgroup g) hdesc, fun k hk => ?_, fun hm g => ?_, fun hsome => ?_,
    fun w hw => ?_, fun k hk w hw hc => ?_⟩
  · rw [hmode, hchan]
    exact h.slots k
  · exact (h.placed k hk).congr (hdesc k) (fun g => by rw [hgroup]) (fun g => by rw [hgroup]) (by rw [hchan])
      (by rw [hchan])
  · rw [hgroup]
    exact h.free (hmode ▸ hm) g
  · obtain ⟨w, hw⟩ := Option.isSome_iff_exists.mp hsome
    rw [hheld w hw] at hsome ⊢
    exact h.stalled hsome
  · rw [hmode, hchan]
    exact h.heldRun w (hheld w hw ▸ hw)
  · rw [hchan]
    exact h.full k hk w (hheld w hw ▸ hw) hc

theorem Lawful.record {A : Set Chan} {s : State} (h : Lawful A s) (k : EventKind) (c : Option Chan)
    (v : Option Byte) (a : Option Addr) (cause : Option SafeCause) : Lawful A (record k c v a cause s) :=
  h.of_same rfl (.inl rfl)

theorem Lawful.recordChannel {A : Set Chan} {s : State} (h : Lawful A s) (k : EventKind) (c : Chan) (v : Byte) :
    Lawful A (recordChannel k c v s) :=
  h.record k _ _ _ _

theorem endedPort_held (p : HostPort) (e : EndKind) (a : Option Byte) : (endedPort p e a).held = none := by
  unfold endedPort
  split <;> rfl

/-- An answer ends the stall. -/
theorem Lawful.answerHost {A : Set Chan} {s : State} (h : Lawful A s) (e : EndKind) (a : Option Byte) :
    Lawful A (answerHost e a s) := by
  rw [answerHost_eq]
  exact h.of_same rfl (.inr (endedPort_held _ _ _))

/-! ### A channel's record changed -/

section
variable {A : Set Chan} {s : State} {c : Chan} {y : Channel}

theorem setChan_desc (hdesc : y.desc = (s.chan c).desc) (k : Chan) :
    ((s.setChan c y).chan k).desc = (s.chan k).desc := by
  rw [setChan_chan]
  split
  · rename_i h
    rw [h, hdesc]
  · rfl

/-- The record of a channel that is out changes by the laws of the record. -/
theorem Lawful.setChan (h : Lawful A s) (hc : c ∈ A) (hdesc : y.desc = (s.chan c).desc)
    (hy : SlotLaw s.ctl.mode y) : Lawful A (s.setChan c y) := by
  have hne (k : Chan) (hk : k ∉ A) : (s.setChan c y).chan k = s.chan k :=
    setChan_chan_ne s c k y fun e => hk (e ▸ hc)
  refine ⟨fun k => ?_, fun g => (h.shape g).congr rfl (setChan_desc hdesc), fun k hk => ?_, h.free, h.stalled,
    fun w hw => ?_, fun k hk w hw hwc => ?_⟩
  · rw [setChan_chan]
    split
    · exact hy
    · exact h.slots k
  · exact (h.placed k hk).congr (setChan_desc hdesc k) (fun _ => .rfl) (fun _ => .rfl) (by rw [hne k hk])
      (by rw [hne k hk])
  · rw [setChan_desc hdesc]
    exact h.heldRun w hw
  · rw [hne k hk]
    exact h.full k hk w hw hwc

/-- A place kept by a record that keeps the class of the state. -/
theorem Placed.setChan (h : Placed s c) (hdesc : y.desc = (s.chan c).desc)
    (hwaits : y.state = .waiting ↔ (s.chan c).state = .waiting)
    (hholds : y.state.holdsToken = (s.chan c).state.holdsToken) : Placed (s.setChan c y) c :=
  h.congr (setChan_desc hdesc c) (fun _ => .rfl) (fun _ => .rfl) (by rw [setChan_chan_self, hwaits])
    (by rw [setChan_chan_self, hholds])

theorem HeldFull.setChan (h : HeldFull s c) (hqueue : y.queue.length = (s.chan c).queue.length)
    (hfault : (s.chan c).state ≠ .fault → y.state ≠ .fault) : HeldFull (s.setChan c y) c := fun w hw hc => by
  obtain ⟨hstate, hlength⟩ := h w hw hc
  rw [setChan_chan_self]
  exact ⟨hfault hstate, hqueue.trans hlength⟩

/-- A record that keeps the class of the state and the length of the queue. -/
theorem Lawful.update (h : Lawful ∅ s) (hdesc : y.desc = (s.chan c).desc) (hy : SlotLaw s.ctl.mode y)
    (hwaits : y.state = .waiting ↔ (s.chan c).state = .waiting)
    (hholds : y.state.holdsToken = (s.chan c).state.holdsToken)
    (hqueue : y.queue.length = (s.chan c).queue.length)
    (hfault : (s.chan c).state ≠ .fault → y.state ≠ .fault) : Lawful ∅ (s.setChan c y) :=
  ((h.opened {c}).setChan rfl hdesc hy).closed ((h.placed c id).setChan hdesc hwaits hholds)
    ((h.full c id).setChan hqueue hfault)

/-- The laws of the record of a configured channel. -/
theorem Lawful.recordLaw {d : Descriptor} (h : Lawful A s) (hd : (s.chan c).desc = some d) :
    RecordLaw s.ctl.mode d (s.chan c) :=
  (h.slots c).configured d hd

end

/-- The channel is neither in the waiter list of its group nor its holder. -/
def Gone (s : State) (c : Chan) : Prop :=
  ∀ g, s.groupOf c = some g → c ∉ (s.group g).waiters ∧ (s.group g).holder ≠ some c

theorem Gone.placed {s : State} {c : Chan} (h : Gone s c) (hwaits : (s.chan c).state ≠ .waiting)
    (hholds : (s.chan c).state.holdsToken = false) : Placed s c where
  waits g hg := by simp [(h g hg).1, hwaits]
  holds g hg := by simp [(h g hg).2, hholds]

theorem Gone.setChan {s : State} {c : Chan} {y : Channel} (h : Gone s c) (hdesc : y.desc = (s.chan c).desc) :
    Gone (s.setChan c y) c := fun g hg =>
  h g ((groupOf_congr (setChan_desc hdesc c)).symm.trans hg)

/-! ### Pending drives and transition marks -/

/-- A change of the pending drive and the transition mark of a configured channel alone. -/
def SlotChange (x y : Channel) : Prop :=
  y = { x with slot := y.slot, transitionMark := y.transitionMark } ∧ (x.desc = none → y = x)

theorem SlotChange.refl (x : Channel) : SlotChange x x := ⟨rfl, fun _ => rfl⟩

theorem SlotChange.slotLaw {m : Mode} {x y : Channel} (h : SlotChange x y) (hx : SlotLaw m x) : SlotLaw m y := by
  obtain ⟨heq, hnone⟩ := h
  cases hd : x.desc with
  | none => rwa [hnone hd]
  | some d =>
    refine .of_desc (d := d) (by rw [heq]; exact hd) ?_
    rw [heq]
    exact (hx.configured d hd).slot _ _

/-- An operation that keeps the descriptors, the states and the queues, and the laws of the records. -/
theorem Lawful.of_records {A : Set Chan} {s t : State} (h : Lawful A s)
    (hslots : ∀ k, SlotLaw t.ctl.mode (t.chan k))
    (hsame : ∀ k, ((t.chan k).desc, (t.chan k).state, (t.chan k).queue) =
      ((s.chan k).desc, (s.chan k).state, (s.chan k).queue))
    (hgroups : t.groups = s.groups) (hmode : t.ctl.mode = s.ctl.mode)
    (hport : (t.port.held, t.port.state) = (s.port.held, s.port.state) ∨ t.port.held = none) : Lawful A t := by
  simp only [Prod.mk.injEq] at hsame
  have hdesc (k : Chan) : (t.chan k).desc = (s.chan k).desc := (hsame k).1
  have hstate (k : Chan) : (t.chan k).state = (s.chan k).state := (hsame k).2.1
  have hqueue (k : Chan) : (t.chan k).queue = (s.chan k).queue := (hsame k).2.2
  have hgroup (g : Group) : t.group g = s.group g := by rw [State.group, State.group, hgroups]
  have hheld (w : HeldWrite) (hw : t.port.held = some w) :
      s.port.held = some w ∧ t.port.state = s.port.state := by
    rcases hport with hsame | hnone
    · simp only [Prod.mk.injEq] at hsame
      exact ⟨hsame.1 ▸ hw, hsame.2⟩
    · exact nomatch hnone.symm.trans hw
  refine ⟨hslots, fun g => (h.shape g).congr (hgroup g) hdesc,
    fun k hk => ?_, fun hm g => ?_, fun hsome => ?_, fun w hw => ?_, fun k hk w hw hc => ?_⟩
  · exact (h.placed k hk).congr (hdesc k) (fun g => by rw [hgroup]) (fun g => by rw [hgroup]) (by rw [hstate])
      (by rw [hstate])
  · rw [hgroup]
    exact h.free (hmode ▸ hm) g
  · obtain ⟨w, hw⟩ := Option.isSome_iff_exists.mp hsome
    obtain ⟨hw', hports⟩ := hheld w hw
    rw [hports]
    exact h.stalled (by rw [hw']; rfl)
  · rw [hmode, hdesc]
    exact h.heldRun w (hheld w hw).1
  · rw [hstate, hqueue]
    exact h.full k hk w (hheld w hw).1 hc

/-- An operation that changes pending drives and transition marks alone. -/
theorem Lawful.of_slots {A : Set Chan} {s t : State} (h : Lawful A s)
    (hchan : ∀ k, SlotChange (s.chan k) (t.chan k)) (hgroups : t.groups = s.groups)
    (hmode : t.ctl.mode = s.ctl.mode) (hport : (t.port.held, t.port.state) = (s.port.held, s.port.state) ∨
      t.port.held = none) : Lawful A t :=
  h.of_records (fun k => hmode ▸ (hchan k).slotLaw (h.slots k)) (fun k => by rw [(hchan k).1]) hgroups hmode hport

/-- With every group free and no write held, the laws of the records are all there is to keep. -/
theorem lawful_of_free {t : State} (hslots : ∀ k, SlotLaw t.ctl.mode (t.chan k))
    (hfree : ∀ g, t.group g = GroupState.free) (hheld : t.port.held = none)
    (hout : ∀ k, (t.chan k).desc ≠ none → (t.chan k).state ≠ .waiting ∧ (t.chan k).state.holdsToken = false) :
    Lawful ∅ t := by
  refine ⟨hslots, fun g => ?_, fun k _ => ?_, fun _ => hfree, ?_, ?_, fun k _ => .of_none hheld⟩
  · constructor <;> rw [hfree g]
    · exact .nil
    · exact fun _ => rfl
    · exact nofun
    · exact nofun
    · exact nofun
  · cases hd : (t.chan k).desc with
    | none => exact .of_ungrouped (by rw [State.groupOf, hd]; rfl)
    | some d =>
      obtain ⟨hwaits, hholds⟩ := hout k (by simp [hd])
      refine Gone.placed (fun g _ => ?_) hwaits hholds
      rw [hfree g]
      exact ⟨nofun, nofun⟩
  · rw [hheld]
    nofun
  · rw [hheld]
    nofun

/-! ### A group changed (R80, R82, R85) -/

section
variable {A : Set Chan} {s : State} {g : Group} {G : GroupState}

theorem Lawful.setGroup (h : Lawful A s) (hnodup : G.waiters.Nodup) (hfree : G.holder = none → G.waiters = [])
    (hapart : ∀ k, G.holder = some k → k ∉ G.waiters) (hwaiters : ∀ k ∈ G.waiters, s.groupOf k = some g)
    (hholder : ∀ k, G.holder = some k → s.groupOf k = some g)
    (houtside : s.ctl.mode ≠ .run → G = GroupState.free)
    (hothers : ∀ k, k ∉ A → (k ∈ G.waiters ↔ k ∈ (s.group g).waiters) ∧
      (G.holder = some k ↔ (s.group g).holder = some k)) :
    Lawful A (s.setGroup g G) := by
  refine ⟨h.slots, fun i => ?_, fun k hk => ?_, fun hm i => ?_, h.stalled, h.heldRun, h.full⟩
  · by_cases hi : i = g
    · subst hi
      refine ⟨?_, ?_, ?_, ?_, ?_⟩ <;> rw [setGroup_group_self]
      · exact hnodup
      · exact hfree
      · exact hapart
      · exact hwaiters
      · exact hholder
    · exact (h.shape i).congr (setGroup_group_ne s g i G hi) fun _ => rfl
  · refine (h.placed k hk).congr rfl (fun i => ?_) (fun i => ?_) .rfl rfl <;> rw [setGroup_group] <;> split
    · rename_i hi
      rw [hi, (hothers k hk).1]
    · rfl
    · rename_i hi
      rw [hi, (hothers k hk).2]
    · rfl
  · rw [setGroup_group]
    split
    · exact houtside hm
    · exact h.free hm i

end

section
variable {A : Set Chan} {s : State} {c : Chan}

/-- A channel that leaves its waiter list (R85, R87). -/
theorem Lawful.withdraw (h : Lawful A s) (hc : c ∈ A) : Lawful A (withdraw c s) := by
  unfold Machine.withdraw
  split
  · exact h
  · rename_i g hg
    obtain ⟨hnodup, hfree, hapart, hwaiters, hholder⟩ := h.shape g
    refine h.setGroup (hnodup.filter _) (fun hn => by simp [hfree hn])
      (fun k hk hmem => hapart k hk (List.mem_filter.mp hmem).1)
      (fun k hk => hwaiters k (List.mem_filter.mp hk).1) hholder (fun hm => ?_) fun k hk => ⟨?_, .rfl⟩
    · rw [h.free hm g]
      rfl
    · have hne : k ≠ c := fun e => hk (e ▸ hc)
      simp [hne]

theorem withdraw_gone (hholder : ∀ g, s.groupOf c = some g → (s.group g).holder ≠ some c) :
    Gone (withdraw c s) c := by
  intro g hg
  unfold Machine.withdraw at hg ⊢
  cases hgc : s.groupOf c with
  | none =>
    rw [hgc] at hg
    exact nomatch hgc.symm.trans hg
  | some i =>
    rw [hgc] at hg
    obtain rfl : i = g := Option.some.inj (hgc.symm.trans hg)
    dsimp only
    rw [setGroup_group_self]
    exact ⟨by simp, hholder i hgc⟩

/-- A waiter list left changes no other group. -/
theorem withdraw_holder (k : Group) : ((withdraw c s).group k).holder = (s.group k).holder := by
  unfold Machine.withdraw
  split
  · rfl
  · rw [setGroup_group]
    split
    · rename_i hk
      rw [hk]
    · rfl

end

/-! ### A grant (R43, R62, R82) -/

section
variable {A : Set Chan} {s : State} {w : Chan} {d : Descriptor}

/-- The count or the value that a WAITING channel asks for is right for its kind (R14). -/
theorem RecordLaw.requested {m : Mode} {x : Channel} (h : RecordLaw m d x) (hw : x.state = .waiting) :
    ∃ q, x.requested = some q ∧ (∀ p, d.kind = .hold p → q ≠ d.rest) ∧
      ∀ p, d.kind = .train p → 1 ≤ q.toNat ∧ q.toNat ≤ 63 := by
  obtain ⟨hsome, hrest, hcount, -⟩ := h.field
  obtain ⟨q, hq⟩ := Option.isSome_iff_exists.mp (hsome.mpr hw)
  exact ⟨q, hq, fun p hp e => hrest (by rw [hp]; rfl) (by rw [hq, e]),
    fun p hp => hcount (by rw [hp]; rfl) q hq⟩

/-- The record of a channel that is granted the token. -/
theorem deliverGrant_eq (hlaw : RecordLaw .run d (s.chan w)) (hd : (s.chan w).desc = some d)
    (hw : (s.chan w).state = .waiting) :
    ∃ y, deliverGrant w s = s.setChan w y ∧ y.desc = some d ∧ RecordLaw .run d y ∧
      y.state.holdsToken = true ∧ y.state ≠ .waiting ∧ y.state ≠ .fault ∧ y.queue = (s.chan w).queue := by
  obtain ⟨q, hq, hrest, hcount⟩ := hlaw.requested hw
  cases hp : d.kind with
  | hold p =>
    refine ⟨holdingAt q (s.chan w), ?_, hd, hlaw.holdingAt hp (hrest p hp) (.inr (.inl hw)), rfl, nofun, nofun, rfl⟩
    rw [deliverGrant, hd, hq]
    simp only [hp, enterHolding_eq]
  | train p =>
    obtain ⟨hpos, hle⟩ := hcount p hp
    refine ⟨markingWith p q.toNat (s.chan w), ?_, hd, hlaw.markingWith hp hpos hle (.inr hw), rfl, nofun, nofun, rfl⟩
    rw [deliverGrant, hd, hq]
    simp only [hp, enterMark_eq]

end

/-- The token given up by its holder, which is out of its place: the head waiter takes its own place (R82). -/
theorem Lawful.passToken {s : State} {c : Chan} {g : Group} (h : Lawful {c} s)
    (hholder : (s.group g).holder = some c) :
    Lawful {c} (passToken g s) ∧ Gone (passToken g s) c ∧ (passToken g s).chan c = s.chan c := by
  obtain ⟨hnodup, -, hapart, hwaiters, hholds⟩ := h.shape g
  have hg := hholds c hholder
  have hrun : s.ctl.mode = .run := by
    by_contra hm
    rw [h.free hm g] at hholder
    cases hholder
  have hnot := hapart c hholder
  cases hw : (s.group g).waiters with
  | nil =>
    rw [passToken_free hw]
    refine ⟨h.setGroup .nil (fun _ => rfl) nofun nofun nofun (fun hm => absurd hrun hm) fun k hk => ⟨by simp [hw], ?_⟩,
      fun i hi => ?_, rfl⟩
    · have hne : c ≠ k := fun e => hk e.symm
      simp [hholder, hne]
    · obtain rfl : g = i := Option.some.inj (hg.symm.trans hi)
      rw [setGroup_group_self]
      exact ⟨by simp, nofun⟩
  | cons w rest =>
    rw [hw] at hnodup hnot hwaiters
    have hne : w ≠ c := fun e => hnot (e ▸ List.mem_cons_self)
    obtain ⟨hfresh, hrestNodup⟩ := List.nodup_cons.mp hnodup
    have hwg := hwaiters w List.mem_cons_self
    have hwaiting := ((h.placed w hne).waits g hwg).mp (by rw [hw]; exact List.mem_cons_self)
    obtain ⟨d, hd, -⟩ := Option.bind_eq_some_iff.mp hwg
    obtain ⟨y, hgrant, hyd, hylaw, hytoken, hywaiting, hyfault, hyqueue⟩ :=
      deliverGrant_eq (s := s.setGroup g { holder := some w, waiters := rest }) (hrun ▸ h.recordLaw hd) hd hwaiting
    have hmoved : Lawful {w, c} (s.setGroup g { holder := some w, waiters := rest }) := by
      refine (h.mono (Set.subset_insert w {c})).setGroup hrestNodup nofun
        (fun k hk => by cases hk; exact hfresh) (fun k hk => hwaiters k (List.mem_cons_of_mem w hk))
        (fun k hk => by cases hk; exact hwg) (fun hm => absurd hrun hm) fun k hk => ?_
      obtain ⟨hkw, hkc⟩ : k ≠ w ∧ k ≠ c := by simpa using hk
      simp [hw, hkw, hholder, Ne.symm hkw, Ne.symm hkc]
    have hgiven := hmoved.setChan (c := w) (y := y) (Set.mem_insert w {c}) (hyd.trans hd.symm)
      (.of_desc hyd (hrun.symm ▸ hylaw))
    rw [passToken_grant hw, hgrant]
    refine ⟨hgiven.settled ⟨fun i hi => ?_, fun i hi => ?_⟩ ?_, fun i hi => ?_, setChan_chan_ne _ w c y hne.symm⟩
    · have hi' : i = g := Option.some.inj ((((groupOf_congr (setChan_desc (hyd.trans hd.symm) w)).symm.trans hi)).symm.trans hwg)
      rw [hi', setChan_group, setGroup_group_self, setChan_chan_self]
      simp [hfresh, hywaiting]
    · have hi' : i = g := Option.some.inj ((((groupOf_congr (setChan_desc (hyd.trans hd.symm) w)).symm.trans hi)).symm.trans hwg)
      rw [hi', setChan_group, setGroup_group_self, setChan_chan_self]
      simp [hytoken]
    · exact HeldFull.setChan (s := s.setGroup g { holder := some w, waiters := rest }) (h.full w hne)
        (congrArg List.length hyqueue) fun _ => hyfault
    · have hi' : i = g := Option.some.inj ((((groupOf_congr (setChan_desc (hyd.trans hd.symm) c)).symm.trans hi)).symm.trans hg)
      rw [hi', setChan_group, setGroup_group_self]
      exact ⟨fun hc => hnot (List.mem_cons_of_mem w hc), fun e => hne (Option.some.inj e)⟩

end Sys2Proof.Machine
end

section
/-! The channel queues and the cadence machines keep the laws of the table and the groups. -/

namespace Sys2Proof.Machine

/-! ### An event of one channel, half done -/

/-- In the midst of an event of channel `c` in RUN: the laws hold but for the write held on its queue, and `c` is
not in FAULT. -/
structure Working (c : Chan) (d : Descriptor) (s : State) : Prop where
  lawful : Lawful {c} s
  mode : s.ctl.mode = .run
  desc : (s.chan c).desc = some d
  placed : Placed s c
  awake : (s.chan c).state ≠ .fault

section
variable {c : Chan} {d : Descriptor} {s : State}

theorem Working.of_lawful (h : Lawful ∅ s) (hmode : s.ctl.mode = .run) (hd : (s.chan c).desc = some d)
    (hawake : (s.chan c).state ≠ .fault) : Working c d s :=
  ⟨h.opened {c}, hmode, hd, h.placed c id, hawake⟩

theorem Working.record (h : Working c d s) : RecordLaw .run d (s.chan c) :=
  h.mode ▸ h.lawful.recordLaw h.desc

theorem Working.close (h : Working c d s) (hfull : HeldFull s c) : Lawful ∅ s := h.lawful.closed h.placed hfull

/-- The record moves within the class of its state. -/
theorem Working.move {y : Channel} (h : Working c d s) (hd : y.desc = some d) (hy : RecordLaw .run d y)
    (hwaits : y.state = .waiting ↔ (s.chan c).state = .waiting)
    (hholds : y.state.holdsToken = (s.chan c).state.holdsToken) (hawake : y.state ≠ .fault) :
    Working c d (s.setChan c y) := by
  have hdesc := hd.trans h.desc.symm
  refine ⟨h.lawful.setChan rfl hdesc (.of_desc hd (h.mode.symm ▸ hy)), h.mode, ?_,
    h.placed.setChan hdesc hwaits hholds, ?_⟩ <;> rw [setChan_chan_self]
  · exact hd
  · exact hawake

theorem Working.recordChannel (h : Working c d s) (k : EventKind) (e : Chan) (v : Byte) :
    Working c d (recordChannel k e v s) :=
  ⟨h.lawful.recordChannel k e v, h.mode, h.desc, h.placed.congr rfl (fun _ => .rfl) (fun _ => .rfl) .rfl rfl, h.awake⟩

/-! ### The queue of the channel (R19, R20) -/

theorem noEqualNeighbours_tail {e : Entry} {q : List Entry} (h : noEqualNeighbours (e :: q) = true) :
    noEqualNeighbours q = true := by
  cases q with
  | nil => rfl
  | cons f rest =>
    simp only [noEqualNeighbours, Bool.and_eq_true] at h
    exact h.2

theorem noEqualNeighbours_concat {q : List Entry} {e : Entry} (h : noEqualNeighbours q = true)
    (hlast : ∀ f, q.getLast? = some f → f.operand ≠ e.operand) : noEqualNeighbours (q ++ [e]) = true := by
  induction q with
  | nil => rfl
  | cons f rest ih =>
    cases rest with
    | nil => simpa [noEqualNeighbours] using hlast f rfl
    | cons g rest =>
      simp only [noEqualNeighbours, Bool.and_eq_true] at h
      have hrest := ih h.2 fun k hk => hlast k (by rw [List.getLast?_cons_cons]; exact hk)
      simp only [List.cons_append, noEqualNeighbours, Bool.and_eq_true]
      exact ⟨h.1, hrest⟩

/-- The tail of a lawful queue. -/
theorem RecordLaw.dropped {x : Channel} {e : Entry} {rest : List Entry} (h : RecordLaw .run d x)
    (hq : x.queue = e :: rest) : RecordLaw .run d { x with queue := rest } := by
  obtain ⟨hlength, hall, hdistinct, hfault⟩ := h.queue
  rw [hq] at hlength hall hdistinct hfault
  simp only [List.all_cons, Bool.and_eq_true] at hall
  exact h.requeued ⟨(Nat.le_succ _).trans hlength, hall.2, fun hk => noEqualNeighbours_tail (hdistinct hk),
    fun hs => nomatch hfault hs⟩

theorem RecordLaw.emptied {m : Mode} {x : Channel} (h : RecordLaw m d x) : RecordLaw m d { x with queue := [] } :=
  ⟨h.legal, h.kind, h.target, h.field, h.timer, h.comparison, .empty d rfl, h.cadence, h.safed, h.fault,
    fun _ => rfl⟩

/-- A decoded entry is one that the kind can queue (R22, R24). -/
theorem entryLegal_of_decode {k : KindPart} {v : Byte} {o : Origin} {e : Entry}
    (h : decodeWrite k v o = .entry e) : entryLegal k e = true := by
  cases k with
  | hold p =>
    cases h
    rfl
  | train p =>
    rw [decodeWrite_train rfl] at h
    rcases Nat.lt_or_ge v.toNat 1 with hzero | hpos
    · have hv : v = 0x00 := BitVec.eq_of_toNat_eq (by change v.toNat = 0; omega)
      rw [hv, decodeTrainData_abort] at h
      cases h
    · rcases Nat.lt_or_ge 0x3F v.toNat with hcount | hcount
      · by_cases hpause : 0x81 ≤ v.toNat ∧ v.toNat ≤ 0x8F
        · rw [decodeTrainData_pause o hpause] at h
          cases h
          have hoperand : (BitVec.ofNat 8 (v.toNat - 0x80)).toNat = v.toNat - 0x80 := by
            rw [BitVec.toNat_ofNat]
            omega
          simp only [entryLegal, hoperand, Bool.and_eq_true, decide_eq_true_eq]
          omega
        · rw [decodeTrainData_undefined o (by omega)] at h
          cases h
      · rw [decodeTrainData_count o ⟨hpos, hcount⟩] at h
        cases h
        simp only [entryLegal, Bool.and_eq_true, decide_eq_true_eq]
        exact ⟨hpos, hcount⟩

/-- The entry of a HOLD write carries the byte written (R22). -/
theorem operand_of_decode {k : KindPart} {v : Byte} {o : Origin} {e : Entry} (hk : k.holdPart.isSome = true)
    (h : decodeWrite k v o = .entry e) : e.operand = v := by
  rw [decodeWrite_hold hk] at h
  cases h
  rfl

/-- An entry appended below eight, past absorption (R20 to R22). -/
theorem RecordLaw.appended {x : Channel} {v : Byte} {o : Origin} {e : Entry} (h : RecordLaw .run d x)
    (hawake : x.state ≠ .fault) (hdecode : decodeWrite d.kind v o = .entry e)
    (habsorbs : absorbs d.kind x v = false) (hroom : x.queue.length < 8) :
    RecordLaw .run d { x with queue := x.queue ++ [e] } := by
  obtain ⟨-, hall, hdistinct, -⟩ := h.queue
  refine h.requeued ⟨by simpa [Config.queueDepth] using hroom, ?_, fun hk => ?_, fun hs => absurd hs hawake⟩
  · simp [List.all_append, hall, entryLegal_of_decode hdecode]
  · refine noEqualNeighbours_concat (hdistinct hk) fun f hf hsame => ?_
    have : absorbs d.kind x v = true :=
      (absorbs_hold_iff hk).mpr (.inl ⟨f, hf, hsame.trans (operand_of_decode hk hdecode)⟩)
    rw [habsorbs] at this
    cases this

/-! ### ABORT (R69 to R73) -/

/-- The withdrawal of a WAITING channel, its record at rest. -/
theorem Working.withdrawn {y : Channel} (h : Working c d s) (hs : (s.chan c).state = .waiting)
    (hd : y.desc = some d) (hy : RecordLaw .run d y) (hyrest : y.state = .resting) :
    Working c d (waiterRemoved c d (s.setChan c y)) := by
  have hdesc := hd.trans h.desc.symm
  have hset : Lawful {c} (s.setChan c y) := h.lawful.setChan rfl hdesc (.of_desc hd (h.mode.symm ▸ hy))
  have hdset : ((s.setChan c y).chan c).desc = some d := (setChan_desc hdesc c).trans h.desc
  have hchan : (waiterRemoved c d (s.setChan c y)).chan c = y := by
    rw [waiterRemoved_chan, setChan_chan_self]
  have hgone : Gone (waiterRemoved c d (s.setChan c y)) c := by
    rw [← withdraw_eq hdset]
    refine withdraw_gone fun g hg hholder => ?_
    have hg' := (groupOf_congr (setChan_desc hdesc c)).symm.trans hg
    have := (h.placed.holds g hg').mp hholder
    rw [hs] at this
    cases this
  have hlawful : Lawful {c} (waiterRemoved c d (s.setChan c y)) := by
    rw [← withdraw_eq hdset]
    exact hset.withdraw rfl
  have hmode : (waiterRemoved c d (s.setChan c y)).ctl.mode = .run := by
    rw [← withdraw_eq hdset, (local_withdraw c _).ctl]
    exact h.mode
  exact ⟨hlawful, hmode, by rw [hchan, hd], hgone.placed (by rw [hchan, hyrest]; nofun)
    (by rw [hchan, hyrest]; rfl), by rw [hchan, hyrest]; nofun⟩

section
variable {x : Channel} (gap : Half)

theorem abortEffect_mark (hs : x.state = .mark) : abortEffect gap x = { x with abortPending := true } := by
  simp only [abortEffect, hs]

theorem abortEffect_space (hs : x.state = .space) :
    abortEffect gap x =
      { x with
        state := .recovering, marks := 0, trainCount := 0, abortPending := false, spaceTimer := none,
        recovery := if x.spaceTimer.isSome then startTimer gap.toNat else none } := by
  simp only [abortEffect, hs]

theorem abortEffect_waiting (hs : x.state = .waiting) :
    abortEffect gap x = { x with state := .resting, requested := none } := by
  simp only [abortEffect, hs]

theorem abortEffect_pausing (hs : x.state = .pausing) :
    abortEffect gap x = { x with state := .resting, pauseTimer := none } := by
  simp only [abortEffect, hs]

theorem abortEffect_other (hs : x.state = .resting ∨ x.state = .recovering) : abortEffect gap x = x := by
  rcases hs with hs | hs <;> simp only [abortEffect, hs]

end

theorem Working.abortTrain {p : TrainPart} (h : Working c d s) (hk : d.kind = .train p) :
    Working c d (abortTrain c d s) := by
  have hempty : RecordLaw .run d { s.chan c with queue := [] } := h.record.emptied
  by_cases hwaiting : (s.chan c).state = .waiting
  · rw [abortTrain_of_waiting h.desc hwaiting,
      abortEffect_waiting d.gap (x := { s.chan c with queue := [] }) hwaiting]
    exact (h.withdrawn hwaiting (y := { s.chan c with state := .resting, requested := none, queue := [] }) h.desc
      (hempty.trainWithdrawn hk hwaiting) rfl).recordChannel _ _ _
  · rw [abortTrain_of_not_waiting hwaiting]
    refine Working.recordChannel ?_ _ _ _
    have hother (hs : (s.chan c).state = .resting ∨ (s.chan c).state = .recovering) :
        Working c d (s.setChan c (abortEffect d.gap { s.chan c with queue := [] })) := by
      rw [abortEffect_other d.gap (x := { s.chan c with queue := [] }) hs]
      exact h.move h.desc hempty .rfl rfl h.awake
    rcases h.record.train_state hk with hs | hs | hs | hs | hs | hs | hs
    · exact hother (.inl hs)
    · exact absurd hs hwaiting
    · rw [abortEffect_mark d.gap (x := { s.chan c with queue := [] }) hs]
      exact h.move h.desc (hempty.abortPending hs) .rfl rfl h.awake
    · rw [abortEffect_space d.gap (x := { s.chan c with queue := [] }) hs]
      exact h.move h.desc (hempty.spaceAborted hk hs _) (by simp [hs]) (by rw [hs]; rfl) nofun
    · rw [abortEffect_pausing d.gap (x := { s.chan c with queue := [] }) hs]
      exact h.move h.desc (hempty.pauseEnded hk hs) (by simp [hs]) (by rw [hs]; rfl) nofun
    · exact hother (.inr hs)
    · exact absurd hs h.awake

/-! ### A write examined (R21, R29) -/

theorem Working.examine (h : Working c d s) (v : Byte) (o : Origin) : Working c d (examine c d v o s).2 := by
  rcases examine_cases c d v o s with ⟨-, he⟩ | ⟨hdecode, he⟩ | ⟨e, hdecode, ⟨-, he⟩ | ⟨ha, hroom, he⟩ | ⟨-, -, he⟩⟩ <;>
    rw [he]
  · exact h.recordChannel _ _ _
  · cases hk : d.kind with
    | hold p => rw [hk] at hdecode; cases hdecode
    | train p => exact h.abortTrain hk
  · exact h
  · exact h.move (y := { s.chan c with queue := (s.chan c).queue ++ [e] }) h.desc
      (h.record.appended h.awake hdecode ha hroom) .rfl rfl h.awake
  · exact h

/-- The re-examination leaves a held write on a full queue only. -/
theorem Working.reexamine (h : Working c d s) : Lawful ∅ (reexamine c s) := by
  by_cases hheld : ∃ w, s.port.held = some w ∧ w.channel = c ∧ (s.chan c).queue.length < 8
  · obtain ⟨w, hw, hwc, hroom⟩ := hheld
    have hexamined := h.examine w.data .host
    rw [reexamine_held (h.lawful.stalled (by rw [hw]; rfl)) hw hwc h.desc hroom, ← examine_port c d w.data .host s,
      ← answerHost_eq]
    refine (hexamined.lawful.answerHost _ _).closed ?_ (.of_none ?_)
    · rw [answerHost_eq]
      exact hexamined.placed.congr rfl (fun _ => .rfl) (fun _ => .rfl) .rfl rfl
    · rw [answerHost_eq]
      exact endedPort_held _ _ _
  · have hfull : HeldFull s c := fun w hw hwc => by
      obtain ⟨hlength, -⟩ := h.record.queue
      refine ⟨h.awake, Nat.le_antisymm hlength ?_⟩
      exact Nat.not_lt.mp fun hroom => hheld ⟨w, hw, hwc, hroom⟩
    have hsame : Machine.reexamine c s = s := by
      by_cases hwc : ∃ w, s.port.held = some w ∧ w.channel = c
      · obtain ⟨w, hw, hwc⟩ := hwc
        exact reexamine_eq_self (.inr (.inr (.inl (Nat.not_lt.mp fun hroom => hheld ⟨w, hw, hwc, hroom⟩))))
      · exact reexamine_eq_self (.inr (.inl fun w hw hc => hwc ⟨w, hw, hc⟩))
    rw [hsame]
    exact h.close hfull

/-! ### Taking a place in the group (R80) -/

/-- The token taken with the record that holds it. -/
theorem Working.takesToken {y : Channel} {g : Group} (h : Working c d s) (hg : d.group = some g)
    (hfree : (s.group g).holder = none) (hd : y.desc = some d) (hy : RecordLaw .run d y)
    (hholds : y.state.holdsToken = true) (hwaits : y.state ≠ .waiting) (hawake : y.state ≠ .fault) :
    Working c d ((s.setChan c y).setGroup g { s.group g with holder := some c }) := by
  have hdesc := hd.trans h.desc.symm
  have hgroupOf : (s.setChan c y).groupOf c = some g := by
    rw [groupOf_congr (setChan_desc hdesc c), State.groupOf, h.desc]
    exact hg
  have hempty := (h.lawful.shape g).free hfree
  have hchan : ((s.setChan c y).setGroup g { s.group g with holder := some c }).chan c = y := by
    rw [setGroup_chan, setChan_chan_self]
  refine ⟨(h.lawful.setChan rfl hdesc (.of_desc hd (h.mode.symm ▸ hy))).setGroup (by simp [hempty]) nofun
      (fun _ _ => by simp [hempty]) (fun k hk => by simp [hempty] at hk) (fun k hk => ?_)
      (fun hm => absurd h.mode hm) (fun k hk => ⟨.rfl, ?_⟩), h.mode, by rw [hchan, hd],
    ⟨fun i hi => ?_, fun i hi => ?_⟩, by rw [hchan]; exact hawake⟩
  · cases hk
    exact hgroupOf
  · have hne : c ≠ k := fun e => hk e.symm
    simp [hfree, hne]
  · obtain rfl : g = i := Option.some.inj (hgroupOf.symm.trans hi)
    rw [setGroup_group_self, hchan]
    simp [hempty, hwaits]
  · obtain rfl : g = i := Option.some.inj (hgroupOf.symm.trans hi)
    rw [setGroup_group_self, hchan]
    simp [hholds]

/-- The tail of the waiter list taken with the record that waits. -/
theorem Working.joins {y : Channel} {g : Group} (h : Working c d s) (hg : d.group = some g)
    (hheld : (s.group g).holder ≠ none) (hd : y.desc = some d) (hy : RecordLaw .run d y)
    (hwaits : y.state = .waiting) (hs : (s.chan c).state ≠ .waiting) (hs' : (s.chan c).state.holdsToken = false) :
    Working c d ((s.setChan c y).setGroup g
      { s.group g with waiters := (s.group g).waiters ++ [c] }) := by
  have hdesc := hd.trans h.desc.symm
  have hgs : s.groupOf c = some g := by
    rw [State.groupOf, h.desc]
    exact hg
  have hgroupOf : (s.setChan c y).groupOf c = some g := (groupOf_congr (setChan_desc hdesc c)).trans hgs
  have hnotMem : c ∉ (s.group g).waiters := fun hc => hs ((h.placed.waits g hgs).mp hc)
  have hnotHolder : (s.group g).holder ≠ some c := fun hc => by
    rw [h.placed.holds g hgs, hs'] at hc
    cases hc
  obtain ⟨hnodup, -, hapart, hwaiters, hholder⟩ := h.lawful.shape g
  have hset := h.lawful.setChan (c := c) rfl hdesc (.of_desc hd (h.mode.symm ▸ hy))
  have hchan : ((s.setChan c y).setGroup g { s.group g with waiters := (s.group g).waiters ++ [c] }).chan c = y := by
    rw [setGroup_chan, setChan_chan_self]
  refine ⟨hset.setGroup ?_ (fun hn => absurd hn hheld) (fun k hk hmem => ?_) (fun k hk => ?_) (fun k hk => ?_)
      (fun hm => absurd h.mode hm) (fun k hk => ⟨?_, .rfl⟩), h.mode, by rw [hchan, hd],
    ⟨fun i hi => ?_, fun i hi => ?_⟩, by rw [hchan, hwaits]; nofun⟩
  · exact hnodup.append (List.nodup_singleton c) (by simpa using hnotMem)
  · rcases List.mem_append.mp hmem with hmem | hmem
    · exact hapart k hk hmem
    · rw [List.mem_singleton.mp hmem] at hk
      exact hnotHolder hk
  · rcases List.mem_append.mp hk with hk | hk
    · exact (groupOf_congr (setChan_desc hdesc k)).trans (hwaiters k hk)
    · rw [List.mem_singleton.mp hk]
      exact hgroupOf
  · exact (groupOf_congr (setChan_desc hdesc k)).trans (hholder k hk)
  · have hne : k ≠ c := hk
    simp [hne]
  · obtain rfl : g = i := Option.some.inj (hgroupOf.symm.trans hi)
    rw [setGroup_group_self, hchan]
    simp [hwaits]
  · obtain rfl : g = i := Option.some.inj (hgroupOf.symm.trans hi)
    rw [setGroup_group_self, hchan, hwaits]
    simpa [ChanState.holdsToken] using hnotHolder

/-- Without a group there is no place to take. -/
theorem Working.moveUngrouped {y : Channel} (h : Working c d s) (hg : d.group = none) (hd : y.desc = some d)
    (hy : RecordLaw .run d y) (hawake : y.state ≠ .fault) : Working c d (s.setChan c y) := by
  have hdesc := hd.trans h.desc.symm
  have hgroupOf : (s.setChan c y).groupOf c = none := by
    rw [groupOf_congr (setChan_desc hdesc c), State.groupOf, h.desc]
    exact hg
  refine ⟨h.lawful.setChan rfl hdesc (.of_desc hd (h.mode.symm ▸ hy)), h.mode, ?_, .of_ungrouped hgroupOf, ?_⟩ <;>
    rw [setChan_chan_self]
  · exact hd
  · exact hawake

end

end Sys2Proof.Machine
end

section
/-! The events of the HOLD and the TRAIN machines keep the laws of the table and the groups (chapters 3 and 4). -/

namespace Sys2Proof.Machine

/-! ### The HOLD machine -/

section
variable {c : Chan} {d : Descriptor} {s : State} {p : HoldPart}

/-- A HOLD channel at rest is not asked for its rest value by an activation (R15). -/
theorem RecordLaw.activated {x : Channel} {v : Byte} (h : RecordLaw .run d x) (hs : x.state = .resting)
    (hv : x.intended ≠ some v) : v ≠ d.rest := by
  obtain ⟨-, hrest, -⟩ := h.target
  rintro rfl
  exact hv ((intended_of_not_waiting (by simp [hs])).trans (hrest (.inl hs)))

theorem Working.activateHold {v : Byte} (h : Working c d s) (hk : d.kind = .hold p)
    (hs : (s.chan c).state = .resting) (hv : v ≠ d.rest) : Working c d (activateHold c d v s) := by
  have hholding : RecordLaw .run d (holdingAt v (s.chan c)) := h.record.holdingAt hk hv (.inl hs)
  cases hg : d.group with
  | none =>
    rw [activateHold_ungrouped hg]
    exact h.moveUngrouped hg h.desc hholding nofun
  | some g =>
    by_cases hfree : (s.group g).holder = none
    · rw [activateHold_free hg hfree]
      exact h.takesToken hg hfree h.desc hholding rfl nofun nofun
    · rw [activateHold_waits hg hfree]
      exact h.joins (y := { s.chan c with state := .waiting, requested := some v }) hg hfree h.desc
        (h.record.holdWaiting hk hv (by rw [hg]; rfl) (.inl hs)) rfl (by rw [hs]; nofun) (by rw [hs]; rfl)

theorem Working.actOnSet (h : Working c d s) (hk : d.kind = .hold p) (v : Byte) :
    Working c d (actOnSet c d v s) := by
  by_cases hsame : (s.chan c).intended = some v
  · rwa [actOnSet_repeat hsame]
  rcases h.record.hold_state hk with hs | hs | hs | hs | hs | hs
  · rw [actOnSet_resting hs hsame]
    exact h.activateHold hk hs (h.record.activated hs hsame)
  · rw [intended_waiting hs] at hsame
    have htarget : (s.chan c).target = some d.rest := h.record.target.2.1 (.inr (.inl hs))
    by_cases hrest : v = d.rest
    · rw [actOnSet_withdrawn h.desc hs hsame hrest]
      have hrested := h.record.holdRest hk (.inr hs)
      rw [← htarget] at hrested
      exact h.withdrawn hs (y := { s.chan c with state := .resting, requested := none }) h.desc hrested rfl
    · rw [actOnSet_replaced hs hsame hrest]
      have hwaiting := h.record.holdWaiting hk hrest (h.record.kind.2 hs) (.inr hs)
      rw [← hs] at hwaiting
      exact h.move (y := { s.chan c with requested := some v }) h.desc hwaiting .rfl rfl h.awake
  · have hnone : Machine.actOnSet c d v s = s := by simp [Machine.actOnSet, hs]
    rwa [hnone]
  · rw [intended_of_not_waiting (by simp [hs])] at hsame
    by_cases hrest : v = d.rest
    · rw [actOnSet_released hs hsame hrest]
      exact h.move h.desc (h.record.releasedTo hk hs) (by simp [releasedTo, hs]) (by rw [hs]; rfl) nofun
    · rw [actOnSet_retargeted hs hsame hrest]
      exact h.move h.desc (h.record.holdingAt hk hrest (.inr (.inr hs))) (by simp [holdingAt, hs])
        (by rw [hs]; rfl) nofun
  · have hnone : Machine.actOnSet c d v s = s := by simp [Machine.actOnSet, hs]
    rwa [hnone]
  · exact absurd hs h.awake

/-- A head removed. -/
theorem Working.dropped {e : Entry} {rest : List Entry} (h : Working c d s) (hq : (s.chan c).queue = e :: rest) :
    Working c d (dropHead c s) := by
  refine h.move (y := { s.chan c with queue := (s.chan c).queue.tail }) h.desc ?_ .rfl rfl h.awake
  rw [hq]
  exact h.record.dropped hq

theorem Working.takeHolds (hk : d.kind = .hold p) (n : Nat) (h : Working c d s) :
    Working c d (takeHolds n c d s) := by
  induction n generalizing s with
  | zero => exact h
  | succ n ih =>
    unfold Machine.takeHolds
    split
    · exact h
    · split
      · exact ih ((h.dropped ‹_›).actOnSet hk _)
      · exact h

theorem Working.takeHoldHeads (h : Working c d s) (hk : d.kind = .hold p) : Lawful ∅ (takeHoldHeads c d s) :=
  (h.takeHolds hk _).reexamine

section
variable (h : Lawful ∅ s) (hmode : s.ctl.mode = .run) (hd : (s.chan c).desc = some d)
include h hmode hd

/-- The laws of the record in RUN. -/
theorem Lawful.runRecord : RecordLaw .run d (s.chan c) := hmode ▸ h.recordLaw hd

/-- A record of a channel in RUN that keeps the class of its state and its queue. -/
theorem Lawful.runUpdate {y : Channel} (hyd : y.desc = some d) (hy : RecordLaw .run d y)
    (hwaits : y.state = .waiting ↔ (s.chan c).state = .waiting)
    (hholds : y.state.holdsToken = (s.chan c).state.holdsToken)
    (hqueue : y.queue = (s.chan c).queue) (hawake : y.state ≠ .fault) : Lawful ∅ (s.setChan c y) :=
  h.update (hyd.trans hd.symm) (.of_desc hyd (hmode.symm ▸ hy)) hwaits hholds (congrArg List.length hqueue)
    fun _ => hawake

variable (hk : d.kind = .hold p)
include hk

theorem Lawful.forceRelease (hs : (s.chan c).state = .held) : Lawful ∅ (forceRelease c d s) := by
  rw [Machine.forceRelease, releaseHold_eq]
  have hrecorded := h.recordChannel .holdExpired c ((s.chan c).target.getD 0)
  exact hrecorded.runUpdate hmode hd hd ((h.runRecord hmode hd).releasedTo hk hs) (by simp [releasedTo, recordChannel_chan, hs])
    (by rw [recordChannel_chan, hs]; rfl) rfl nofun

theorem Lawful.becomeHeld (hs : (s.chan c).state = .holding) : Lawful ∅ (becomeHeld c d s) := by
  have hheld : Lawful ∅ (heldNow c s) :=
    h.runUpdate hmode hd (y := { s.chan c with state := .held, minHold := none }) hd
      ((h.runRecord hmode hd).heldNow hk hs _) (by simp [hs]) (by rw [hs]; rfl) rfl nofun
  have hlocal := local_heldNow c s
  have hworking : Working c d (heldNow c s) :=
    .of_lawful hheld (by rw [hlocal.ctl]; exact hmode) ((hlocal.desc c).trans hd) (by rw [heldNow_chan]; nofun)
  have htaken := hworking.takeHoldHeads hk
  have hlocal' := local_takeHoldHeads c d (heldNow c s)
  rw [becomeHeld_eq, thenMaxHold]
  split
  · rename_i hdue
    simp only [maxHoldDue, Bool.and_eq_true, beq_iff_eq] at hdue
    exact htaken.forceRelease (by rw [hlocal'.ctl, hlocal.ctl]; exact hmode)
      ((hlocal'.desc c).trans ((hlocal.desc c).trans hd)) hk hdue.1
  · exact htaken

omit hk in
/-- The token given up at the end of a recovery, the place of `c` open (R53, R68, R82). -/
theorem Lawful.tokenGivenUp (hs : (s.chan c).state = .recovering) :
    Lawful {c} (releaseToken c (s.setChan c { s.chan c with recovery := none })) ∧
      Gone (releaseToken c (s.setChan c { s.chan c with recovery := none })) c ∧
      (releaseToken c (s.setChan c { s.chan c with recovery := none })).chan c =
        { s.chan c with recovery := none } := by
  have hstopped : Lawful ∅ (s.setChan c { s.chan c with recovery := none }) :=
    h.runUpdate hmode hd (y := { s.chan c with recovery := none }) hd
      ((h.runRecord hmode hd).recoveryTimer hs none) .rfl rfl rfl (by rw [hs]; nofun)
  have hplaced := hstopped.placed c id
  have hchan : (s.setChan c { s.chan c with recovery := none }).chan c = { s.chan c with recovery := none } :=
    setChan_chan_self s c _
  have hdset : ((s.setChan c { s.chan c with recovery := none }).chan c).desc = some d := by rw [hchan]; exact hd
  cases hg : d.group with
  | none =>
    have hgroupOf : (s.setChan c { s.chan c with recovery := none }).groupOf c = none := by
      rw [State.groupOf, hdset]
      exact hg
    rw [releaseToken_other fun g hg' => nomatch hgroupOf.symm.trans hg']
    exact ⟨hstopped.opened _, fun g hg' => (nomatch hgroupOf.symm.trans hg'), hchan⟩
  | some g =>
    have hgroupOf : (s.setChan c { s.chan c with recovery := none }).groupOf c = some g := by
      rw [State.groupOf, hdset]
      exact hg
    have hholder := (hplaced.holds g hgroupOf).mpr (by rw [hchan]; simp [hs, ChanState.holdsToken])
    rw [releaseToken_holder hgroupOf hholder]
    obtain ⟨hlawful, hgone, hsame⟩ := (hstopped.opened {c}).passToken hholder
    exact ⟨hlawful, hgone, hsame.trans hchan⟩

omit hk in
/-- The channel at rest after its recovery. -/
theorem Lawful.rested {y : Channel} (hs : (s.chan c).state = .recovering) (hyd : y.desc = some d)
    (hy : RecordLaw .run d y) (hyrest : y.state = .resting) :
    Working c d ((releaseToken c (s.setChan c { s.chan c with recovery := none })).setChan c y) := by
  obtain ⟨hlawful, hgone, hchan⟩ := h.tokenGivenUp hmode hd hs
  have hmode' : (releaseToken c (s.setChan c { s.chan c with recovery := none })).ctl.mode = .run := by
    rw [(local_releaseToken c _).ctl]
    exact hmode
  have hdesc : y.desc = ((releaseToken c (s.setChan c { s.chan c with recovery := none })).chan c).desc := by
    rw [hchan, hyd]
    exact hd.symm
  refine ⟨hlawful.setChan rfl hdesc (.of_desc hyd (hmode'.symm ▸ hy)), hmode', ?_,
    (hgone.setChan hdesc).placed ?_ ?_, ?_⟩ <;> rw [setChan_chan_self]
  · exact hyd
  · rw [hyrest]
    nofun
  · rw [hyrest]
    rfl
  · rw [hyrest]
    nofun

theorem Lawful.endHoldRecovery (hs : (s.chan c).state = .recovering) : Lawful ∅ (endHoldRecovery c d s) := by
  obtain ⟨-, -, hchan⟩ := h.tokenGivenUp hmode hd hs
  have hstopped := (h.runRecord hmode hd).recoveryTimer hs none
  have hrested := h.rested hmode hd hs (y := { s.chan c with recovery := none, state := .resting, target := some d.rest }) hd
    (by
      have hrest := hstopped.holdRest hk (.inl ⟨hs, rfl⟩)
      have hrequested : (s.chan c).requested = none := by
        obtain ⟨hiff, -⟩ := (h.runRecord hmode hd).field
        rw [← Option.not_isSome_iff_eq_none, hiff, hs]
        nofun
      rw [← hrequested] at hrest
      exact hrest) rfl
  have heq : Machine.endHoldRecovery c d s = Machine.takeHoldHeads c d
      ((releaseToken c (s.setChan c { s.chan c with recovery := none })).setChan c
        { s.chan c with recovery := none, state := .resting, target := some d.rest }) := by
    rw [Machine.endHoldRecovery, modChan, modChan, hchan]
  rw [heq]
  exact hrested.takeHoldHeads hk

/-- With a min hold of 0 the channel is HELD at once; its max-hold timer, just started, is not due (R45, R51). -/
theorem Lawful.heldAtOnce (hs : (s.chan c).state = .holding) (htimer : (s.chan c).minHold = none) {n : Nat} :
    Lawful ∅ (Machine.becomeHeld c d
      (s.setChan c { s.chan c with minHold := fullTimer 0, maxHold := fullTimer n })) := by
  have hnow : heldNow c (s.setChan c { s.chan c with minHold := fullTimer 0, maxHold := fullTimer n }) =
      s.setChan c { s.chan c with state := .held, maxHold := fullTimer n } := by
    rw [heldNow, setChan_chan_self, setChan_setChan, ← htimer]
  have hheld : Lawful ∅ (s.setChan c { s.chan c with state := .held, maxHold := fullTimer n }) := by
    have hrecord := (h.runRecord hmode hd).heldNow hk hs (fullTimer n)
    rw [← htimer] at hrecord
    exact h.runUpdate hmode hd (y := { s.chan c with state := .held, maxHold := fullTimer n }) hd
      hrecord (by simp [hs]) (by rw [hs]; rfl) rfl nofun
  have hdheld : ((s.setChan c { s.chan c with state := .held, maxHold := fullTimer n }).chan c).desc = some d := by
    rw [setChan_chan_self]
    exact hd
  have hworking : Working c d (s.setChan c { s.chan c with state := .held, maxHold := fullTimer n }) :=
    .of_lawful hheld hmode hdheld (by rw [setChan_chan_self]; nofun)
  rw [becomeHeld_eq, hnow, thenMaxHold_not_due]
  · exact hworking.takeHoldHeads hk
  · exact takeHoldHeads_not_due hdheld (by rw [hk]; rfl) (by rw [setChan_chan_self]; exact fullTimer_ne_due n)

theorem Lawful.holdCompletion : Lawful ∅ (holdCompletion c d p s) := by
  have hrecord := h.runRecord hmode hd
  by_cases hholding : (s.chan c).state = .holding ∧ (s.chan c).minHold = none
  · obtain ⟨hs, htimer⟩ := hholding
    rw [holdCompletion_holding hs htimer]
    split
    · rename_i hzero
      rw [hzero]
      exact h.heldAtOnce hmode hd hk hs htimer
    · rename_i hmin
      exact h.runUpdate hmode hd (y := { s.chan c with
        minHold := fullTimer p.minHold.toNat, maxHold := fullTimer p.maxHold.toNat }) hd
        (hrecord.startHold hk hs hmin) .rfl rfl rfl (by rw [hs]; nofun)
  · by_cases hrecovering : (s.chan c).state = .recovering ∧ (s.chan c).recovery = none
    · obtain ⟨hs, htimer⟩ := hrecovering
      rw [holdCompletion_recovering hs htimer]
      split
      · exact h.endHoldRecovery hmode hd hk hs
      · exact h.runUpdate hmode hd (y := { s.chan c with recovery := fullTimer d.gap.toNat }) hd
          (hrecord.recoveryTimer hs _) .rfl rfl rfl (by rw [hs]; nofun)
    · rwa [holdCompletion_none hholding hrecovering]

end

end

end Sys2Proof.Machine
end

section
/-! The events of the TRAIN machine and the completions keep the laws of the table and the groups (chapter 4). -/

namespace Sys2Proof.Machine

/-- A held write kept, or answered, by an operation that keeps the length of the queue. -/
theorem HeldFull.of_local {c j : Chan} {s t : State} (h : HeldFull s c) (hst : Local j s t)
    (hqueue : (t.chan c).queue.length = (s.chan c).queue.length) (hawake : (t.chan c).state ≠ .fault) :
    HeldFull t c := fun w hw hwc => by
  rcases hst.port with hsame | ⟨-, e, a, hended⟩
  · obtain ⟨-, hlength⟩ := h w (hsame ▸ hw) hwc
    exact ⟨hawake, hqueue.trans hlength⟩
  · rw [hended, endedPort_held] at hw
    cases hw

section
variable {c : Chan} {d : Descriptor} {s : State} {p : TrainPart}

/-- A channel out of its cadence waits for no completion. -/
theorem cadenceCompletion_out (hs : ¬ (s.chan c).state.isCadence = true) : cadenceCompletion c s = s := by
  have hne (st : ChanState) (hst : st.isCadence = true) : (s.chan c).state ≠ st := fun e => hs (e ▸ hst)
  unfold cadenceCompletion
  split
  · rfl
  · split
    · exact holdCompletion_none (fun h => hne .holding rfl h.1) fun h => hne .recovering rfl h.1
    · exact trainCompletion_none (fun h => hne .mark rfl h.1) (fun h => hne .space rfl h.1)
        fun h => hne .recovering rfl h.1

/-! ### A head at rest (R60, R61) -/

theorem Working.startTrain {n : Byte} (h : Working c d s) (hk : d.kind = .train p)
    (hs : (s.chan c).state = .resting) (hpos : 1 ≤ n.toNat) (hle : n.toNat ≤ 63) :
    Working c d (startTrain c d p n s) := by
  have hmarking : RecordLaw .run d (markingWith p n.toNat (s.chan c)) :=
    h.record.markingWith hk hpos hle (.inl hs)
  cases hg : d.group with
  | none =>
    rw [startTrain_ungrouped hg]
    exact h.moveUngrouped hg h.desc hmarking nofun
  | some g =>
    by_cases hfree : (s.group g).holder = none
    · rw [startTrain_free hg hfree]
      exact h.takesToken hg hfree h.desc hmarking rfl nofun nofun
    · rw [startTrain_waits hg hfree]
      exact h.joins (y := { s.chan c with state := .waiting, requested := some n }) hg hfree h.desc
        (h.record.trainWaiting hk hpos hle (by rw [hg]; rfl) hs) rfl (by rw [hs]; nofun) (by rw [hs]; rfl)

/-- A pause of at least one unit starts its timer: the unit is at least 10 ms (R5, R61). -/
theorem Working.startPause {n : Byte} (h : Working c d s) (hk : d.kind = .train p)
    (hs : (s.chan c).state = .resting) (hpos : 1 ≤ n.toNat) : Working c d (startPause c p n s) := by
  obtain ⟨-, htrain, -⟩ := h.record.legal
  obtain ⟨-, -, -, hunit, -⟩ := htrain p (by rw [hk]; rfl)
  simp only [inRange, Bool.and_eq_true, decide_eq_true_eq] at hunit
  have hlong : n.toNat * p.pauseUnit.toNat ≠ 0 := Nat.mul_ne_zero (by omega) (by omega)
  exact h.move (y := { s.chan c with
      state := .pausing, pauseTimer := startTimer (n.toNat * p.pauseUnit.toNat) }) h.desc
    (h.record.startPause hk hs (by simp [startTimer, hlong])) (by simp [hs]) (by rw [hs]; rfl) nofun

theorem Working.actOnTrainEntry {e : Entry} (h : Working c d s) (hk : d.kind = .train p)
    (hs : (s.chan c).state = .resting) (he : entryLegal d.kind e = true) :
    Working c d (actOnTrainEntry c d p e s) := by
  rw [hk] at he
  cases hkind : e.kind with
  | set => simp [entryLegal, hkind] at he
  | train =>
    simp only [entryLegal, hkind, Bool.and_eq_true, decide_eq_true_eq] at he
    simp only [Machine.actOnTrainEntry, hkind]
    exact h.startTrain hk hs he.1 he.2
  | pause =>
    simp only [entryLegal, hkind, Bool.and_eq_true, decide_eq_true_eq] at he
    simp only [Machine.actOnTrainEntry, hkind]
    exact h.startPause hk hs he.1

/-- A head taken examines the held write again; with no head nothing is taken. -/
theorem Working.takeTrainHead (h : Working c d s) (hk : d.kind = .train p) (hfull : HeldFull s c) :
    Lawful ∅ (takeTrainHead c d p s) := by
  unfold Machine.takeTrainHead
  split
  · exact h.close hfull
  · rename_i e rest hq
    split
    · rename_i hs
      obtain ⟨-, hall, -⟩ := h.record.queue
      simp only [hq, List.all_cons, Bool.and_eq_true] at hall
      refine ((h.dropped hq).actOnTrainEntry hk ?_ hall.1).reexamine
      rw [dropHead, modChan_chan_self]
      exact hs
    · exact h.close hfull

end

section
variable {c : Chan} {d : Descriptor} {s : State} (h : Lawful ∅ s) (hmode : s.ctl.mode = .run)
variable (hd : (s.chan c).desc = some d)
include h hmode hd

section
variable {p : TrainPart} (hk : d.kind = .train p)
include hk

theorem Lawful.takeTrainHead (hs : (s.chan c).state ≠ .fault) : Lawful ∅ (takeTrainHead c d p s) :=
  (Working.of_lawful h hmode hd hs).takeTrainHead hk (h.full c id)

/-! ### The timers (R61, R65, R66, R68) -/

theorem Lawful.endMark (hs : (s.chan c).state = .mark) : Lawful ∅ (endMark c d s) := by
  have hended : Lawful ∅ (s.setChan c (markEnded d.rest (s.chan c))) :=
    h.runUpdate hmode hd hd ((h.runRecord hmode hd).markEnded hk hs) (by simp [markEnded, hs]) (by rw [hs]; rfl)
      rfl nofun
  by_cases habort : (s.chan c).abortPending = true
  · rwa [endMark_aborted habort]
  · rw [Bool.not_eq_true] at habort
    rcases Nat.lt_or_ge (s.chan c).marks 2 with hlast | hmore
    · rw [endMark_last habort (Nat.le_of_lt_succ hlast)]
      exact hended.recordChannel _ _ _
    · rw [endMark_more habort hmore]
      exact h.runUpdate hmode hd (y := { s.chan c with
        state := .space, target := some d.rest, marks := (s.chan c).marks - 1, spaceTimer := none
        markTimer := none, slot := some d.rest }) hd ((h.runRecord hmode hd).enterSpace hk hs habort hmore _)
        (by simp [hs]) (by rw [hs]; rfl) rfl nofun

theorem Lawful.endSpace (hs : (s.chan c).state = .space) : Lawful ∅ (endSpace c p s) := by
  rw [endSpace_eq]
  exact h.runUpdate hmode hd (y := { s.chan c with
    state := .mark, target := some p.markValue, abortPending := false, spaceTimer := none
    markTimer := none, slot := some p.markValue }) hd ((h.runRecord hmode hd).endSpace hk hs _)
    (by simp [hs]) (by rw [hs]; rfl) rfl nofun

theorem Lawful.endPause (hs : (s.chan c).state = .pausing) : Lawful ∅ (endPause c d p s) := by
  have hrested : Lawful ∅ (s.setChan c { s.chan c with state := .resting, pauseTimer := none }) :=
    h.runUpdate hmode hd (y := { s.chan c with state := .resting, pauseTimer := none }) hd
      ((h.runRecord hmode hd).pauseEnded hk hs) (by simp [hs]) (by rw [hs]; rfl) rfl nofun
  refine hrested.takeTrainHead hmode ?_ hk ?_ <;> rw [setChan_chan_self]
  · exact hd
  · nofun

theorem Lawful.endTrainRecovery (hs : (s.chan c).state = .recovering) :
    Lawful ∅ (endTrainRecovery c d p s) := by
  obtain ⟨-, -, hchan⟩ := h.tokenGivenUp hmode hd hs
  have hrested := h.rested hmode hd hs (y := { s.chan c with recovery := none, state := .resting }) hd
    (((h.runRecord hmode hd).recoveryTimer hs none).trainRest hk hs rfl) rfl
  have heq : trainRested c d s =
      (releaseToken c (s.setChan c { s.chan c with recovery := none })).setChan c
        { s.chan c with recovery := none, state := .resting } := by
    rw [← trainRested_eq hd, modChan, modChan, hchan]
  rw [← heq] at hrested
  rw [endTrainRecovery_eq hd]
  exact hrested.takeTrainHead hk ((h.full c id).of_local (local_trainRested hd)
    (congrArg List.length trainRested_queue) hrested.awake)

omit hk in
theorem Lawful.trainCompletion : Lawful ∅ (trainCompletion c d p s) := by
  have hrecord := h.runRecord hmode hd
  unfold Machine.trainCompletion modChan
  dsimp only
  split
  · rename_i hs
    exact h.runUpdate hmode hd (y := { s.chan c with markTimer := startTimer p.markTime.toNat }) hd
      (hrecord.startMark hs.1 _) .rfl rfl rfl (by rw [hs.1]; nofun)
  · split
    · rename_i hs
      exact h.runUpdate hmode hd (y := { s.chan c with spaceTimer := startTimer p.spaceTime.toNat }) hd
        (hrecord.startSpace hs.1 _) .rfl rfl rfl (by rw [hs.1]; nofun)
    · split
      · rename_i hs
        exact h.runUpdate hmode hd (y := { s.chan c with recovery := startTimer d.gap.toNat }) hd
          (hrecord.recoveryTimer hs.1 _) .rfl rfl rfl (by rw [hs.1]; nofun)
      · rwa [setChan_self]

end

omit hmode in
/-- The completion at the machine of the channel's kind (R101), which does nothing out of a cadence. -/
theorem Lawful.cadenceCompletion : Lawful ∅ (cadenceCompletion c s) := by
  by_cases hcadence : (s.chan c).state.isCadence = true
  case neg => rwa [cadenceCompletion_out hcadence]
  have hmode : s.ctl.mode = .run := (h.recordLaw hd).cadence hcadence
  unfold Machine.cadenceCompletion
  rw [hd]
  dsimp only
  cases hk : d.kind with
  | hold p => exact h.holdCompletion hmode hd hk
  | train p => exact h.trainCompletion hmode hd

end

end Sys2Proof.Machine
end

section
/-! The feedback supervisor, the entry to FAULT and the ends of a drive write keep the laws of the table and the
groups (chapters 6 and 8). -/

namespace Sys2Proof.Machine

section
variable {c : Chan} {d : Descriptor} {s : State}

/-! ### The entry to FAULT (R105, R132, R133) -/

/-- A token given up by a channel out of its place, if it holds one (R82, R86). -/
theorem Lawful.releaseToken (h : Lawful {c} s) :
    Lawful {c} (releaseToken c s) ∧ (releaseToken c s).chan c = s.chan c ∧
      ∀ g, (releaseToken c s).groupOf c = some g → ((releaseToken c s).group g).holder ≠ some c := by
  by_cases hheld : ∃ g, s.groupOf c = some g ∧ (s.group g).holder = some c
  · obtain ⟨g, hg, hholder⟩ := hheld
    rw [releaseToken_holder hg hholder]
    obtain ⟨hlawful, hgone, hchan⟩ := h.passToken hholder
    exact ⟨hlawful, hchan, fun i hi => (hgone i hi).2⟩
  · rw [releaseToken_other fun g hg hholder => hheld ⟨g, hg, hholder⟩]
    exact ⟨h, rfl, fun g hg hholder => hheld ⟨g, hg, hholder⟩⟩

/-- A write given up is held no more (R122). -/
theorem Lawful.giveUpStall {A : Set Chan} (h : Lawful A s) (concerns : Chan → Bool) :
    Lawful A (giveUpStall concerns s) := by
  unfold Machine.giveUpStall
  split
  · split
    · exact (h.recordChannel _ _ _).answerHost _ _
    · exact h
  · exact h

theorem giveUpStall_heldFull {A : Set Chan} (h : Lawful A s) : HeldFull (giveUpStall (· == c) s) c := by
  unfold Machine.giveUpStall
  split
  · rename_i w hw
    split
    · exact .of_none (by rw [answerHost_eq]; exact endedPort_held _ _ _)
    · rename_i hnot
      intro w' hw' hc
      rw [hw] at hw'
      cases hw'
      exact absurd ⟨h.stalled (by rw [hw]; rfl), by simp [hc]⟩ hnot
  · exact .of_none ‹_›

theorem Lawful.faultChannel (h : Lawful {c} s) (hd : (s.chan c).desc = some d) (hm : s.ctl.mode ≠ .config)
    (cause : FaultCause) : Lawful ∅ (faultChannel c cause s) := by
  have hrecord := h.recordLaw hd
  have hfaulted : Lawful {c} (faulted c d cause s) := by
    refine h.setChan rfl rfl (.of_desc (d := d) hd ?_)
    exact .left hrecord.legal hrecord.comparison (.inr (.inl ⟨rfl, rfl, hm⟩)) rfl nofun rfl
  have hchan : ((faulted c d cause s).chan c).state = .fault := by rw [setChan_chan_self]
  obtain ⟨hreleased, hsame, hholder⟩ := hfaulted.releaseToken
  have hdesc : ((Machine.releaseToken c (faulted c d cause s)).chan c).desc = some d := by
    rw [hsame, faulted_desc]
    exact hd
  have hout : ((Machine.withdraw c (Machine.releaseToken c (faulted c d cause s))).chan c).state = .fault := by
    rw [withdraw_eq hdesc, waiterRemoved_chan, hsame, hchan]
  have hplaced : Placed (Machine.withdraw c (Machine.releaseToken c (faulted c d cause s))) c :=
    (withdraw_gone hholder).placed (by rw [hout]; nofun) (by rw [hout]; rfl)
  have hwithdrawn := hreleased.withdraw (c := c) rfl
  rw [faultChannel_eq hd, ← giveUpStall_channel, ← releaseToken_eq ((faulted_desc c d cause s c).trans hd),
    ← withdraw_eq hdesc]
  have hlocal := local_giveUpStall c (· == c) (Machine.withdraw c (Machine.releaseToken c (faulted c d cause s)))
  refine (hwithdrawn.giveUpStall _).closed ?_ (giveUpStall_heldFull hwithdrawn)
  rw [giveUpStall_channel] at hlocal ⊢
  unfold stallGivenUp
  split
  · exact hplaced
  · split
    · exact hplaced.congr rfl (fun _ => .rfl) (fun _ => .rfl) .rfl rfl
    · exact hplaced

/-! ### The comparison (R126 to R131) -/

/-- A record that keeps state, queue and descriptor. -/
theorem Lawful.sameState {A : Set Chan} {y : Channel} (h : Lawful A s) (hd : (s.chan c).desc = some d)
    (hyd : y.desc = some d) (hy : RecordLaw s.ctl.mode d y) (hstate : y.state = (s.chan c).state)
    (hqueue : y.queue = (s.chan c).queue) : Lawful A (s.setChan c y) := by
  refine h.of_records (fun k => ?_) (fun k => ?_) rfl rfl (.inl rfl) <;> rw [setChan_chan] <;> split
  · exact .of_desc hyd hy
  · exact h.slots k
  · rename_i hk
    rw [hk, hyd, hd, hstate, hqueue]
  · rfl

/-- A comparison changed by an operation that keeps it fitting. -/
theorem Lawful.modComparison {A : Set Chan} {op : FeedbackPart → Comparison → Comparison} (h : Lawful A s)
    (hop : ∀ f k, (s.chan c).cmp = some k → ComparisonFits f (s.chan c).driven k →
      ComparisonFits f (s.chan c).driven (op f k)) : Lawful A (modComparison c op s) := by
  cases hd : (s.chan c).desc with
  | none =>
    rw [modComparison_unsupervised (by rw [hd]; rfl)]
    exact h
  | some d =>
    cases hf : d.feedback with
    | none =>
      rw [modComparison_unsupervised (by rw [hd]; exact hf)]
      exact h
    | some f =>
      have hrecord := h.recordLaw hd
      have heq : Machine.modComparison c op s =
          s.setChan c { s.chan c with driven := (s.chan c).driven, cmp := (s.chan c).cmp.map (op f) } := by
        simp [Machine.modComparison, modChan, hd, hf]
      rw [heq]
      refine h.sameState hd (y := { s.chan c with
        driven := (s.chan c).driven, cmp := (s.chan c).cmp.map (op f) }) hd (hrecord.compared ?_) rfl rfl
      exact hrecord.comparison.changed (op := op) (by rw [hf]) fun f' k _ hk hfits => hop f' k hk hfits

theorem Lawful.reportStuck {A : Set Chan} (h : Lawful A s) (hd : (s.chan c).desc = some d)
    (hs : (s.chan c).state = .fault) : Lawful A (reportStuck c s) := by
  have hrecord := h.recordLaw hd
  unfold Machine.reportStuck
  split
  · exact h
  · refine Lawful.record (s := s.setChan c { s.chan c with stuckReported := true }) ?_ _ _ _ _ _
    refine h.sameState hd (y := { s.chan c with stuckReported := true }) hd ?_ rfl rfl
    obtain ⟨hrequested, hrest, hcount, hmarks, hle, htrain, hle', habort, -⟩ := hrecord.field
    exact ⟨hrecord.legal, hrecord.kind, hrecord.target,
      ⟨hrequested, hrest, hcount, hmarks, hle, htrain, hle', habort, fun _ => hs⟩, hrecord.timer,
      hrecord.comparison, hrecord.queue, hrecord.cadence, hrecord.safed, hrecord.fault, hrecord.idle⟩

/-- The phase of a comparison tells that the channel is configured. -/
theorem Lawful.desc_of_cmp {A : Set Chan} {k : Comparison} (h : Lawful A s) (hk : (s.chan c).cmp = some k) :
    ∃ d, (s.chan c).desc = some d := by
  cases hd : (s.chan c).desc with
  | none =>
    rw [(h.slots c).unconfigured hd] at hk
    cases hk
  | some d => exact ⟨d, rfl⟩

theorem Lawful.confirmMismatch (h : Lawful ∅ s) (hphase : (s.chan c).cmpPhase = some .filtering) :
    Lawful ∅ (confirmMismatch c s) := by
  obtain ⟨k, hk, hfiltering⟩ := Option.map_eq_some_iff.mp hphase
  obtain ⟨d, hd⟩ := h.desc_of_cmp hk
  have hconfirmed : Lawful ∅ (Machine.modComparison c (fun _ k => { k with phase := .confirmed, filter := none }) s) := by
    refine h.modComparison fun f k' hk' hfits => hfits.confirmed ?_
    rw [hk] at hk'
    cases hk'
    exact hfiltering
  have hlocal : Local c s (Machine.modComparison c (fun _ k => { k with phase := .confirmed, filter := none }) s) :=
    local_modComparison fun _ => fresh_confirmed
  have hd' := (hlocal.desc c).trans hd
  unfold Machine.confirmMismatch
  dsimp only
  split
  · rename_i hs
    refine hconfirmed.reportStuck hd' ?_
    simp only [Machine.modComparison, modChan_chan_self]
    split <;> exact hs
  · have hrecorded := hconfirmed.record .feedbackFault (some c) (s.chan c).driven none none
    split
    · exact hrecorded
    · rename_i hmode
      exact (hrecorded.opened {c}).faultChannel hd' (fun hm => hmode (.inl hm)) _

theorem Lawful.settleExpires (h : Lawful ∅ s) : Lawful ∅ (settleExpires c s) := by
  unfold Machine.settleExpires State.onEvent
  split
  · rename_i hdue
    simp only [Bool.and_eq_true, beq_iff_eq] at hdue
    obtain ⟨k, hk, hsettling⟩ := Option.map_eq_some_iff.mp hdue.2.1
    refine h.modComparison fun f k' hk' hfits => hfits.settled ?_ _
    rw [hk] at hk'
    cases hk'
    exact hsettling
  · exact h

theorem Lawful.actOnSense (h : Lawful ∅ s) : Lawful ∅ (actOnSense c s) :=
  h.modComparison fun _ _ _ hfits => hfits.sensed _

/-! ### The end of a fault (R138, R139) -/

/-- A channel that leaves FAULT has no place in a group, and no write is held on its queue. -/
theorem Lawful.unfaulted {y : Channel} (h : Lawful ∅ s) (hs : (s.chan c).state = .fault)
    (hdesc : y.desc = (s.chan c).desc) (hy : SlotLaw s.ctl.mode y) (hwaits : y.state ≠ .waiting)
    (hholds : y.state.holdsToken = false) : Lawful ∅ (s.setChan c y) := by
  refine ((h.opened {c}).setChan (c := c) rfl hdesc hy).closed ?_ ?_
  · exact (h.placed c id).setChan hdesc (by simp [hs, hwaits]) (by rw [hs, hholds]; rfl)
  · exact fun w hw hc => absurd hs (h.full c id w hw hc).1

theorem Lawful.clearFaultInRun (h : Lawful ∅ s) (hd : (s.chan c).desc = some d) (hmode : s.ctl.mode = .run)
    (hs : (s.chan c).state = .fault) : Lawful ∅ (clearFaultInRun c d s) := by
  have hrecord := h.recordLaw hd
  rw [clearFaultInRun_eq hd]
  have hcleared : RecordLaw s.ctl.mode d { outOfCadence .resting d.rest (s.chan c) with
      queue := [], stuckReported := false, cmp := forgotten d (s.chan c), slot := some d.rest } := by
    refine .left hrecord.legal ?_ (.inr (.inr ⟨rfl, rfl, hmode⟩)) rfl nofun rfl
    refine hrecord.comparison.changed (op := fun _ _ => .unknown) ?_ fun f _ _ _ _ => .of_unknown f _
    cases hf : d.feedback <;> simp [forgotten, hf, Comparison.unknown]
  exact h.unfaulted hs (y := { outOfCadence .resting d.rest (s.chan c) with
    queue := [], stuckReported := false, cmp := forgotten d (s.chan c), slot := some d.rest }) rfl
    (.of_desc hd hcleared) nofun rfl

theorem Lawful.clearFaultInSafe (h : Lawful ∅ s) (hd : (s.chan c).desc = some d) (hmode : s.ctl.mode ≠ .run)
    (hs : (s.chan c).state = .fault) : Lawful ∅ (clearFaultInSafe c d s) := by
  have hrecord := h.recordLaw hd
  rw [clearFaultInSafe_eq hd]
  have hcleared : RecordLaw s.ctl.mode d { outOfCadence .safed d.safe (s.chan c) with
      stuckReported := false, cmp := clearedComparison d (s.chan c) } := by
    refine .left hrecord.legal ?_ (.inl ⟨rfl, rfl, hmode⟩) rfl nofun (hrecord.idle hmode)
    refine hrecord.comparison.changed (op := fun f => resettle f (s.chan c).driven) rfl
      fun f k hf _ hfits => ?_
    change ComparisonFits f (s.chan c).driven _
    cases hv : (s.chan c).driven with
    | none =>
      rw [hv] at hfits
      exact hfits
    | some v => exact .of_settling (hrecord.legal.2.2 f hf) v
  exact h.unfaulted hs (y := { outOfCadence .safed d.safe (s.chan c) with
    stuckReported := false, cmp := clearedComparison d (s.chan c) }) rfl (.of_desc hd hcleared) nofun rfl

end

/-! ### The ends of a drive write (R101, R104) -/

section
variable {f : InFlight} {d : Descriptor} {s : State}

theorem Lawful.creditCompletion (h : Lawful ∅ s) (hd : (s.chan f.channel).desc = some d) :
    Lawful ∅ (creditCompletion f s) := by
  have hrecord := h.recordLaw hd
  have hcredited : Lawful ∅ (s.setChan f.channel (credited d f.value (s.chan f.channel))) := by
    refine h.sameState hd (y := credited d f.value (s.chan f.channel)) hd (hrecord.compared ?_) rfl rfl
    exact hrecord.comparison.changed (op := fun fb k => k.completion fb f.value) rfl
      fun fb _ hf _ hfits => hfits.completion (hrecord.legal.2.2 fb hf) _
  by_cases hslot : (s.chan f.channel).slot = none
  · rw [creditCompletion_latest hd hslot]
    exact hcredited.cadenceCompletion (by rw [setChan_chan_self]; exact hd)
  · rwa [creditCompletion_pending hd hslot]

theorem Lawful.chargeTimeout (h : Lawful ∅ s) (hd : (s.chan f.channel).desc = some d) :
    Lawful ∅ (chargeTimeout f s) := by
  have hrecord := h.recordLaw hd
  have hlost : Lawful ∅ (s.setChan f.channel
      { s.chan f.channel with driven := none, cmp := forgotten d (s.chan f.channel) }) := by
    refine h.sameState hd (y := { s.chan f.channel with
      driven := none, cmp := forgotten d (s.chan f.channel) }) hd (hrecord.compared ?_) rfl rfl
    refine hrecord.comparison.changed (op := fun _ _ => .unknown) ?_ fun fb _ _ _ _ => .of_unknown fb _
    cases hf : d.feedback <;> simp [forgotten, hf, Comparison.unknown]
  by_cases hkept : s.ctl.mode = .config ∨ s.ctl.mode = .enteringConfig ∨ (s.chan f.channel).state = .fault
  · rwa [chargeTimeout_lost hd hkept]
  · simp only [not_or] at hkept
    obtain ⟨hconfig, hentering, hfault⟩ := hkept
    rw [chargeTimeout_faults hd hconfig hentering hfault]
    exact (hlost.opened {f.channel}).faultChannel (d := d) (by rw [setChan_chan_self]; exact hd) hconfig _

end

end Sys2Proof.Machine
end

section
/-! The laws of the bus, the marks and the port, and the laws of the part gathered as the commands keep them
(R8, R94, R96, R103, R109, R111, R142). -/

namespace Sys2Proof.Machine

/-! ### The port (R109, R119) -/

/-- The record, the stall timer and the held write are present exactly in their states. -/
structure PortShape (p : HostPort) : Prop where
  cycle : p.cycle = none ↔ p.state = .idle
  stallTimer : p.stallTimer.isSome = true ↔ p.state = .stalled
  held : p.held.isSome = true ↔ p.state = .stalled
  ending : ∀ k, p.cycle = some k → (k.ending.isSome = true ↔ p.state = .ending)
  released : p.state = .idle → p.released = false

theorem PortShape.idle : PortShape HostPort.idle := by constructor <;> simp [HostPort.idle]

theorem PortShape.answered (k : CycleKind) (a : Addr) (v : Option Byte) (d : Option HostDecode) (e : EndKind)
    (b : Option Byte) : PortShape (answeredPort k a v d e b) := by
  constructor <;> simp

theorem PortShape.ended {p : HostPort} (h : PortShape p) (hs : p.state ≠ .idle) (e : EndKind) (a : Option Byte) :
    PortShape (endedPort p e a) := by
  unfold endedPort
  split
  · exact .idle
  · have hcycle : p.cycle ≠ none := fun hn => hs (h.cycle.mp hn)
    constructor <;> simp [hcycle]

/-! ### The laws in the midst of an event -/

/-- The laws of the addresses, the bus, the marks and the port while an event is half done: the mark of the channel
whose drive write has just ended may still be yes, a free bus may leave drives pending, and a transition may have
come to its end. -/
structure Mid (ended : Option Chan) (s : State) : Prop where
  address : AddressLaw s
  pass : PassLaw s
  port : PortShape s.port
  passOn : s.port.state = .passOn ↔ s.down.bus = .pass
  timer : s.down.timer.isSome = true ↔ s.down.bus ≠ .idle
  passBurst : s.down.bus = .pass → s.down.burst = 0
  flight : ∀ f, s.down.bus = .drive f → 1 ≤ s.down.burst ∧ s.down.burst ≤ Config.burstLimit ∧
    (f.attached = true → (s.chan f.channel).desc.map (·.target) = some f.address)
  settled : s.ctl.mode.isTransition = false → ∀ k, (s.chan k).transitionMark = false
  marks : ∀ k, ended ≠ some k → (s.chan k).transitionMark = true →
    (s.chan k).slot.isSome = true ∨ ∃ f, s.down.bus = .drive f ∧ f.channel = k

/-- The bus IDLE with nothing to issue (R96, R97). -/
def Quiet (s : State) : Prop :=
  s.down.bus = .idle → s.down.burst = 0 ∧ s.port.state ≠ .passWait ∧ ∀ k, (s.chan k).slot = none

/-- A transition that waits for a drive (R142). -/
def Awaited (s : State) : Prop := s.ctl.mode.isTransition = true → ∃ k, (s.chan k).transitionMark = true

/-- The laws of the part that bind its blocks together. -/
structure Core (s : State) : Prop where
  lawful : Lawful ∅ s
  mid : Mid none s
  quiet : Quiet s
  awaited : Awaited s
  holdBack : HoldBackLaw s

theorem inFlight_iff {b : Downstream} {c : Chan} :
    b.inFlight.map (·.channel) = some c ↔ ∃ f, b.bus = .drive f ∧ f.channel = c := by
  unfold Downstream.inFlight
  cases b.bus <;> simp

theorem inFlight_eq_some {b : Downstream} {f : InFlight} : b.inFlight = some f ↔ b.bus = .drive f := by
  unfold Downstream.inFlight
  cases b.bus <;> simp

theorem marked_iff {s : State} : s.noMarks = false ↔ ∃ k, (s.chan k).transitionMark = true := by
  rw [← Bool.not_eq_true, noMarks_iff]
  simp

theorem Sound.core {s : State} (h : Sound s) : Core s := by
  obtain ⟨⟨hunconfigured, hlegal, hkind, htarget, hfield, htimer, hcomparison, hqueue⟩, hmodes, haddress, hgroups,
    houtside, ⟨-, hpassOn, hbusTimer, hidle, hpassBurst, hflight⟩, ⟨htransition, hmarks⟩,
    ⟨hcycle, hstallTimer, hheld, hwrite, hending, hreleased⟩, hpass, -, -, -, -, -, hholdBack, -, -⟩ := h
  obtain ⟨hshape, hplaced⟩ := groupLaw_iff.mp hgroups
  refine ⟨⟨fun k => ⟨hunconfigured k, fun d hd => ?_⟩, hshape, fun k _ => hplaced k,
      fun hm => (houtside hm).2.1, hheld.mp, fun w hw => ?_, fun k _ w hw hc => ?_⟩,
    ⟨haddress, hpass, ⟨hcycle, hstallTimer, hheld, hending, hreleased⟩, hpassOn, hbusTimer, hpassBurst,
      fun f hf => hflight f (inFlight_eq_some.mpr hf), fun hm k => ?_, fun k _ hk => ?_⟩,
    hidle, fun hm => marked_iff.mp (htransition.mpr hm), hholdBack⟩
  · obtain ⟨hcadence, hsafed, hfault⟩ := hmodes k
    exact ⟨hlegal k d hd, hkind k d hd, htarget k d hd, hfield k d hd, htimer k d hd, hcomparison k d hd,
      hqueue k d hd, hcadence, hsafed, hfault, fun hm => (houtside hm).1 k⟩
  · obtain ⟨hmode, hpolicy, -⟩ := hwrite w hw
    exact ⟨hmode, hpolicy⟩
  · obtain ⟨-, -, hfull⟩ := hwrite w hw
    exact hc ▸ hfull
  · rw [← Bool.not_eq_true]
    intro hk
    rw [htransition.mp (marked_iff.mpr ⟨k, hk⟩)] at hm
    cases hm
  · exact (hmarks k hk).imp_right inFlight_iff.mp

theorem Core.outside {s : State} (h : Core s) (hm : s.ctl.mode ≠ .run) :
    (∀ k, (s.chan k).queue = []) ∧ (∀ g, s.group g = GroupState.free) ∧ s.port.state ≠ .stalled := by
  refine ⟨fun k => ?_, h.lawful.free hm, fun hstalled => ?_⟩
  · cases hd : (s.chan k).desc with
    | none =>
      rw [(h.lawful.slots k).unconfigured hd]
      rfl
    | some d => exact (h.lawful.recordLaw hd).idle hm
  · obtain ⟨w, hw⟩ := Option.isSome_iff_exists.mp (h.mid.port.held.mpr hstalled)
    exact hm (h.lawful.heldRun w hw).1

theorem Core.sound {s : State} (h : Core s) (hheartbeat : HeartbeatLaw s) (hsettings : SettingsLaw s)
    (hsafe : SafeLineLaw s) (hmint : MintLaw s) (hevent : EventLaw s) (hreset : ResetHoldLaw s)
    (hinput : InputLaw s) : Sound s := by
  have hrecord {k : Chan} {d : Descriptor} (hd : (s.chan k).desc = some d) := h.lawful.recordLaw hd
  have hempty (k : Chan) (hd : (s.chan k).desc = none) := (h.lawful.slots k).unconfigured hd
  refine ⟨⟨hempty, fun k d hd => (hrecord hd).legal,
      fun k d hd => (hrecord hd).kind, fun k d hd => (hrecord hd).target, fun k d hd => (hrecord hd).field,
      fun k d hd => (hrecord hd).timer, fun k d hd => (hrecord hd).comparison, fun k d hd => (hrecord hd).queue⟩,
    fun k => ?_, h.mid.address, groupLaw_iff.mpr ⟨h.lawful.shape, fun k => h.lawful.placed k id⟩, h.outside,
    ⟨fun k hd => by rw [hempty k hd]; rfl, h.mid.passOn, h.mid.timer, h.quiet, h.mid.passBurst,
      fun f hf => h.mid.flight f (inFlight_eq_some.mp hf)⟩,
    ⟨?_, fun k hk => (h.mid.marks k nofun hk).imp_right inFlight_iff.mpr⟩,
    ⟨h.mid.port.cycle, h.mid.port.stallTimer, h.mid.port.held, fun w hw => ?_, h.mid.port.ending, h.mid.port.released⟩,
    h.mid.pass, hheartbeat, hsettings, hsafe, hmint, hevent, h.holdBack, hreset, hinput⟩
  · cases hd : (s.chan k).desc with
    | none =>
      rw [hempty k hd]
      exact ⟨nofun, nofun, nofun⟩
    | some d => exact ⟨(hrecord hd).cadence, (hrecord hd).safed, (hrecord hd).fault⟩
  · rw [marked_iff]
    refine ⟨fun ⟨k, hk⟩ => ?_, h.awaited⟩
    rw [← Bool.not_eq_false]
    intro hm
    rw [h.mid.settled hm k] at hk
    cases hk
  · obtain ⟨hmode, hpolicy⟩ := h.lawful.heldRun w hw
    exact ⟨hmode, hpolicy, h.lawful.full w.channel id w hw rfl⟩

end Sys2Proof.Machine
end

section
/-! The operations of one channel and the arbiter keep the laws that bind the blocks together. -/

namespace Sys2Proof.Machine

/-! ### The addresses (R8, R110) -/

theorem AddressLaw.of_desc {s t : State} (h : AddressLaw s) (hdesc : ∀ k, (t.chan k).desc = (s.chan k).desc)
    (haddress : t.ctl.heartbeatAddress = s.ctl.heartbeatAddress) : AddressLaw t := by
  obtain ⟨hdistinct, hheartbeat⟩ := h
  refine ⟨fun c k hne hsome => ?_, fun c => ?_⟩
  · rw [hdesc] at hsome
    rw [hdesc, hdesc]
    exact hdistinct c k hne hsome
  · rw [hdesc, haddress]
    exact hheartbeat c

theorem governed_congr {s t : State} (hdesc : ∀ k, (t.chan k).desc = (s.chan k).desc) (a : Addr) :
    t.governed a = s.governed a := by
  unfold State.governed
  congr 1
  funext c
  rw [hdesc]

/-- A pass-through cycle, waiting or on the bus. -/
theorem PassLaw.of_desc {s t : State} (h : PassLaw s) (hdesc : ∀ k, (t.chan k).desc = (s.chan k).desc)
    (hport : t.port.state = .passWait ∨ t.port.state = .passOn →
      (s.port.state = .passWait ∨ s.port.state = .passOn) ∧ t.port.cycle = s.port.cycle) : PassLaw t := by
  intro hs k hk
  obtain ⟨hs', hcycle⟩ := hport hs
  rw [governed_congr hdesc]
  exact h hs' k (hcycle ▸ hk)

theorem targetConflicts_congr {s t : State} (hdesc : ∀ k, (t.chan k).desc = (s.chan k).desc)
    (haddress : t.ctl.heartbeatAddress = s.ctl.heartbeatAddress) (c : Chan) (a : Addr) :
    targetConflicts c a t = targetConflicts c a s := by
  unfold targetConflicts
  simp only [hdesc, haddress]

/-! ### Operations of one channel -/

section
variable {s t : State} {c : Chan}

theorem endedPort_not_pass (p : HostPort) (e : EndKind) (a : Option Byte) :
    ¬ ((endedPort p e a).state = .passWait ∨ (endedPort p e a).state = .passOn) := by
  rcases endedPort_state p e a with h | h <;> rw [h] <;> nofun

theorem Mid.of_local {ended : Option Chan} (h : Mid ended s) (hst : Local c s t) : Mid ended t where
  address := h.address.of_desc hst.desc (by rw [hst.ctl])
  pass := by
    refine h.pass.of_desc hst.desc fun hs => ?_
    rcases hst.port with hport | ⟨-, e, a, hport⟩ <;> rw [hport] at hs ⊢
    · exact ⟨hs, rfl⟩
    · exact absurd hs (endedPort_not_pass _ _ _)
  port := by
    rcases hst.port with hport | ⟨hstalled, e, a, hport⟩ <;> rw [hport]
    · exact h.port
    · exact h.port.ended (by rw [hstalled]; nofun) e a
  passOn := by
    rw [hst.down]
    rcases hst.port with hport | ⟨hstalled, e, a, hport⟩ <;> rw [hport]
    · exact h.passOn
    · have hbus : s.down.bus ≠ .pass := fun hb => nomatch hstalled.symm.trans (h.passOn.mpr hb)
      exact ⟨fun hs => absurd (.inr hs) (endedPort_not_pass _ _ _), fun hb => absurd hb hbus⟩
  timer := by rw [hst.down]; exact h.timer
  passBurst := by rw [hst.down]; exact h.passBurst
  flight f hf := by
    rw [hst.down] at hf ⊢
    rw [hst.desc]
    exact h.flight f hf
  settled hm k := by
    rw [hst.ctl] at hm
    rw [← Bool.not_eq_true]
    intro hk
    rcases hst.mark k hk with hk | ⟨hk, -⟩
    · rw [h.settled hm k] at hk
      cases hk
    · rw [hm] at hk
      cases hk
  marks k hne hk := by
    rw [hst.down]
    rcases hst.mark k hk with hk | ⟨-, hslot⟩
    · exact (h.marks k hne hk).imp_left (hst.slot k)
    · exact .inl hslot

theorem Awaited.of_local (h : Awaited s) (hst : Local c s t) : Awaited t := fun hm => by
  rw [hst.ctl] at hm
  obtain ⟨k, hk⟩ := h hm
  exact ⟨k, hst.marked k hk⟩

/-- What the hold-back looks at is as it was. -/
theorem HoldBackLaw.of_same (h : HoldBackLaw s) (hmgmt : t.mgmt = s.mgmt) (hmode : t.ctl.mode = s.ctl.mode)
    (hconflicts : ∀ k a, targetConflicts k a t = targetConflicts k a s)
    (hpass : ∀ a, passInProgressTo a s = true → passInProgressTo a t = true) : HoldBackLaw t := by
  intro q hq
  rw [hmgmt] at hq ⊢
  rw [hmode, hconflicts]
  obtain ⟨hconfig, hlegal, hfree, hwaits, hrest⟩ := h q hq
  exact ⟨hconfig, hlegal, hfree, hpass _ hwaits, hrest⟩

theorem HoldBackLaw.of_none (h : t.mgmt.pendingSet = none) : HoldBackLaw t := fun _ hq => nomatch h.symm.trans hq

theorem HoldBackLaw.of_local (h : HoldBackLaw s) (hst : Local c s t) : HoldBackLaw t := by
  refine h.of_same hst.mgmt (by rw [hst.ctl]) (targetConflicts_congr hst.desc (by rw [hst.ctl])) fun a ha => ?_
  rw [passInProgressTo_iff] at ha ⊢
  rcases hst.port with hport | ⟨hstalled, -⟩
  · rwa [hport]
  · rw [hstalled] at ha
    obtain ⟨-, -, hs | hs, -⟩ := ha <;> cases hs

/-- An operation that loses no record of a drive and requests none leaves a bus with nothing to issue. -/
theorem Quiet.of_local (h : Quiet s) (hst : Local c s t) (hslot : ∀ k, (t.chan k).slot = (s.chan k).slot) :
    Quiet t := fun hbus => by
  rw [hst.down] at hbus ⊢
  obtain ⟨hburst, hport, hslots⟩ := h hbus
  refine ⟨hburst, ?_, fun k => by rw [hslot, hslots]⟩
  rcases hst.port with heq | ⟨-, e, a, heq⟩ <;> rw [heq]
  · exact hport
  · exact fun hs => endedPort_not_pass _ _ _ (.inl hs)

/-- An operation of one channel that requests no drive. -/
theorem Core.of_local (h : Core s) (hst : Local c s t) (hlawful : Lawful ∅ t)
    (hslot : ∀ k, (t.chan k).slot = (s.chan k).slot) : Core t :=
  ⟨hlawful, h.mid.of_local hst, h.quiet.of_local hst hslot, h.awaited.of_local hst, h.holdBack.of_local hst⟩

end

/-! ### The arbiter (R96, R97) -/

section
variable {s : State}

theorem arbitrate_desc (s : State) (k : Chan) : ((arbitrate s).chan k).desc = (s.chan k).desc := by
  rcases arbitrate_chan s k with h | ⟨h, -⟩ <;> rw [h]

theorem arbitrate_mark (s : State) (k : Chan) :
    ((arbitrate s).chan k).transitionMark = (s.chan k).transitionMark := by
  rcases arbitrate_chan s k with h | ⟨h, -⟩ <;> rw [h]

/-- The port keeps its record and its stall at the arbiter's choice; a pass-through cycle can be issued. -/
theorem arbitrate_port (s : State) :
    (arbitrate s).port = s.port ∨
      s.port.state = .passWait ∧ (arbitrate s).port = { s.port with state := .passOn } := by
  rcases arbitrate_cases s with ⟨-, h⟩ | ⟨-, c, hc, -, h⟩ | ⟨-, hwait, -, h⟩ | ⟨-, -, -, h⟩ <;> rw [h]
  · exact .inl rfl
  · left
    unfold issueDrive
    split <;> rfl
  · exact .inr ⟨hwait, rfl⟩
  · exact .inl rfl

theorem Lawful.arbitrate {A : Set Chan} (h : Lawful A s) : Lawful A (arbitrate s) := by
  refine h.of_slots (fun k => ?_) (arbitrate_groups s) (by rw [arbitrate_ctl]) ?_
  · rcases arbitrate_chan s k with heq | ⟨heq, hslot⟩ <;> rw [heq]
    · exact .refl _
    · refine ⟨rfl, fun hd => ?_⟩
      rw [(h.slots k).unconfigured hd] at hslot
      cases hslot
  · rcases arbitrate_port s with heq | ⟨hwait, heq⟩ <;> rw [heq]
    · exact .inl rfl
    · right
      rw [← Option.not_isSome_iff_eq_none]
      intro hheld
      have := h.stalled hheld
      rw [hwait] at this
      cases this

theorem PortShape.issued {p : HostPort} (h : PortShape p) (hs : p.state = .passWait) :
    PortShape { p with state := .passOn } := by
  obtain ⟨hcycle, htimer, hheld, hending, -⟩ := h
  rw [hs] at hcycle htimer hheld hending
  exact ⟨hcycle.trans (by simp), htimer.trans (by simp), hheld.trans (by simp),
    fun k hk => (hending k hk).trans (by simp), nofun⟩

theorem arbitrate_pass (h : PassLaw s) : PassLaw (Machine.arbitrate s) := by
  refine h.of_desc (arbitrate_desc s) fun hs => ?_
  rcases arbitrate_port s with heq | ⟨hwait, heq⟩ <;> rw [heq] at hs ⊢
  · exact ⟨hs, rfl⟩
  · exact ⟨.inl hwait, rfl⟩

/-- The next cycle issued, or the bus IDLE. -/
theorem Mid.arbitrate (h : Mid none s) (hslotless : ∀ k, (s.chan k).desc = none → (s.chan k).slot = none) :
    Mid none (arbitrate s) ∧ Quiet (arbitrate s) := by
  have haddress : AddressLaw (Machine.arbitrate s) :=
    h.address.of_desc (arbitrate_desc s) (by rw [arbitrate_ctl])
  have hpass := arbitrate_pass h.pass
  have hsettled : (Machine.arbitrate s).ctl.mode.isTransition = false →
      ∀ k, ((Machine.arbitrate s).chan k).transitionMark = false := by
    intro hm k
    rw [arbitrate_mark]
    exact h.settled (by rwa [arbitrate_ctl] at hm) k
  rcases arbitrate_cases s with ⟨hbus, heq⟩ | ⟨hbus, c, hc, -, heq⟩ | ⟨hbus, hwait, -, heq⟩ | ⟨hbus, hnone, hwait, heq⟩
  · rw [heq]
    exact ⟨h, fun hb => absurd hb hbus⟩
  · obtain ⟨hslot, hdesc⟩ := lowestPending_some hc
    obtain ⟨v, hv⟩ := Option.isSome_iff_exists.mp hslot
    obtain ⟨d, hd⟩ := Option.isSome_iff_exists.mp hdesc
    have hpassOn : s.port.state ≠ .passOn := fun hs => nomatch hbus.symm.trans (h.passOn.mp hs)
    rw [heq, issueDrive_eq hd hv] at haddress hpass hsettled ⊢
    refine ⟨⟨haddress, hpass, h.port, ⟨fun hs => absurd hs hpassOn, nofun⟩, by simp, nofun, fun f hf => ?_, hsettled,
      fun k _ hk => ?_⟩, nofun⟩
    · cases hf
      refine ⟨by simp only; omega, by simp only [Config.burstLimit]; omega, fun _ => ?_⟩
      change ((s.setChan c _).chan c).desc.map _ = _
      rw [setChan_chan_self, hd]
      rfl
    · by_cases hkc : k = c
      · exact .inr ⟨_, rfl, hkc.symm⟩
      · have hsame : (s.setChan c { s.chan c with slot := none }).chan k = s.chan k := setChan_chan_ne s c k _ hkc
        change ((s.setChan c _).chan k).transitionMark = true at hk
        change ((s.setChan c _).chan k).slot.isSome = true ∨ _
        rw [hsame] at hk ⊢
        refine .inl ((h.marks k nofun hk).resolve_right fun ⟨f, hf, _⟩ => ?_)
        rw [hbus] at hf
        cases hf
  · rw [heq] at haddress hpass hsettled ⊢
    have hmarks (k : Chan) (hk : (s.chan k).transitionMark = true) : (s.chan k).slot.isSome = true :=
      (h.marks k nofun hk).resolve_right fun ⟨f, hf, _⟩ => nomatch hbus.symm.trans hf
    exact ⟨⟨haddress, hpass, h.port.issued hwait, ⟨fun _ => rfl, fun _ => rfl⟩, by simp [issuePass], fun _ => rfl,
      fun f hf => (nomatch hf), hsettled, fun k _ hk => .inl (hmarks k hk)⟩, nofun⟩
  · rw [heq] at haddress hpass hsettled ⊢
    have hslots (k : Chan) : (s.chan k).slot = none := (lowestPending_none hnone k).elim id (hslotless k)
    refine ⟨⟨haddress, hpass, h.port, h.passOn, h.timer, fun _ => rfl, fun f hf => ?_, hsettled, h.marks⟩,
      fun _ => ⟨rfl, hwait, hslots⟩⟩
    rw [show s.down.bus = .drive f from hf] at hbus
    cases hbus

theorem Awaited.arbitrate (h : Awaited s) : Awaited (arbitrate s) := fun hm => by
  rw [arbitrate_ctl] at hm
  obtain ⟨k, hk⟩ := h hm
  exact ⟨k, (arbitrate_mark s k).trans hk⟩

theorem HoldBackLaw.arbitrate (h : HoldBackLaw s) : HoldBackLaw (arbitrate s) := by
  refine h.of_same (arbitrate_mgmt s) (by rw [arbitrate_ctl])
    (targetConflicts_congr (arbitrate_desc s) (by rw [arbitrate_ctl])) fun a ha => ?_
  rw [passInProgressTo_iff] at ha ⊢
  rcases arbitrate_port s with heq | ⟨-, heq⟩ <;> rw [heq]
  · exact ha
  · obtain ⟨k, hk, -, hka⟩ := ha
    exact ⟨k, hk, .inr rfl, hka⟩

/-- The arbiter's choice ends an event. -/
theorem core_arbitrate (hlawful : Lawful ∅ s) (hmid : Mid none s) (hawaited : Awaited s) (hholdBack : HoldBackLaw s) :
    Core (arbitrate s) := by
  obtain ⟨hmid', hquiet⟩ := hmid.arbitrate fun k hd => by
    rw [(hlawful.slots k).unconfigured hd]
    rfl
  exact ⟨hlawful.arbitrate, hmid', hquiet, hawaited.arbitrate, hholdBack.arbitrate⟩

theorem Core.arbitrate (h : Core s) : Core (arbitrate s) :=
  core_arbitrate h.lawful h.mid h.awaited h.holdBack

/-- An event of one channel, and the arbiter's choice. -/
theorem Core.event {t : State} {c : Chan} (h : Core s) (hst : Local c s t) (hlawful : Lawful ∅ t) :
    Core (Machine.arbitrate t) :=
  core_arbitrate hlawful (h.mid.of_local hst) (h.awaited.of_local hst) (h.holdBack.of_local hst)

end

end Sys2Proof.Machine
end

section
/-! The transitions keep the laws of the part (R142 to R152). -/

namespace Sys2Proof.Machine

/-! ### The record of a channel at a change of mode -/

section
variable {m m' : Mode} {x : Channel} {d : Descriptor}

/-- Outside RUN no channel waits for a token or holds one. -/
theorem RecordLaw.out (h : RecordLaw m d x) (hm : m ≠ .run) :
    x.state ≠ .waiting ∧ x.state.holdsToken = false := by
  have hcadence := h.cadence
  cases hs : x.state <;> rw [hs] at hcadence
  case unconfigured | safed | fault => exact ⟨nofun, rfl⟩
  all_goals exact absurd (hcadence rfl) hm

theorem RecordLaw.not_cadence (h : RecordLaw m d x) (hm : m ≠ .run) : x.state.isCadence = false := by
  rw [← Bool.not_eq_true]
  exact fun hc => hm (h.cadence hc)

/-- A channel that is not in FAULT has reported no stuck load. -/
theorem RecordLaw.not_stuck (h : RecordLaw m d x) (hs : x.state ≠ .fault) : x.stuckReported = false := by
  obtain ⟨-, -, -, -, -, -, -, -, hstuck⟩ := h.field
  rw [← Bool.not_eq_true]
  exact fun hx => hs (hstuck hx)

theorem SlotLaw.remoded (h : SlotLaw m x) (hm : m ≠ .run) (hm' : m' ≠ .run)
    (hfault : x.state = .fault → m' ≠ .config) : SlotLaw m' x where
  unconfigured := h.unconfigured
  configured d hd :=
    have hrecord := h.configured d hd
    hrecord.inMode (hrecord.not_cadence hm) (fun _ => hm') hfault (hrecord.idle hm)

theorem SlotLaw.enterRun (h : SlotLaw m x) (hm : m ≠ .run) : SlotLaw .run x.enterRun := by
  cases hd : x.desc with
  | none =>
    rw [enterRun_other (.inl hd)]
    exact slotLaw_unconfigured (h.unconfigured hd)
  | some d =>
    have hrecord := h.configured d hd
    by_cases hfault : x.state = .fault
    · rw [enterRun_other (.inr hfault)]
      refine .of_desc hd (hrecord.inMode (hrecord.not_cadence hm) (fun hs => ?_) (fun _ => nofun) (hrecord.idle hm))
      rw [hfault] at hs
      cases hs
    · rw [enterRun_healthy hd hfault]
      refine .of_desc (d := d) hd (.left hrecord.legal hrecord.comparison (.inr (.inr ⟨rfl, rfl, rfl⟩)) rfl
        (fun hx => ?_) rfl)
      exact nomatch hx.symm.trans (hrecord.not_stuck hfault)

theorem SlotLaw.enterConfig (h : SlotLaw m x) (hm : m ≠ .run) : SlotLaw .config x.enterConfig := by
  cases hd : x.desc with
  | none =>
    rw [enterConfig_other (.inl hd)]
    exact slotLaw_unconfigured (h.unconfigured hd)
  | some d =>
    have hrecord := h.configured d hd
    by_cases hfault : x.state = .fault
    · rw [enterConfig_fault hd hfault]
      exact .of_desc (d := d) hd (.left hrecord.legal hrecord.comparison (.inl ⟨rfl, rfl, nofun⟩) rfl nofun
        (hrecord.idle hm))
    · rw [enterConfig_other (.inr hfault)]
      exact h.remoded hm nofun fun hs => absurd hs hfault

/-- The safe drive with its mark of a channel that leaves RUN (R146). -/
theorem SlotLaw.leaveRun (h : SlotLaw m x) (hm' : m' ≠ .run) (hconfig : m' ≠ .config) :
    SlotLaw m' x.leaveRun := by
  cases hd : x.desc with
  | none =>
    rw [leaveRun_other (.inl hd)]
    refine slotLaw_unconfigured ?_
    rw [h.unconfigured hd]
    rfl
  | some d =>
    have hrecord := h.configured d hd
    by_cases hfault : x.state = .fault
    · rw [leaveRun_other (.inr hfault)]
      refine .of_desc (d := d) hd (hrecord.emptied.inMode ?_ (fun _ => hm') (fun _ => hconfig) rfl)
      rw [hfault]
      rfl
    · rw [leaveRun_healthy hd hfault]
      refine .of_desc (d := d) hd (.left hrecord.legal hrecord.comparison (.inl ⟨rfl, rfl, hm'⟩) rfl
        (fun hx => ?_) rfl)
      exact nomatch hx.symm.trans (hrecord.not_stuck hfault)

end

/-- Outside RUN, with every group free and no write held, the laws of the records are all there is to keep. -/
theorem lawful_outside {t : State} (hm : t.ctl.mode ≠ .run) (hslots : ∀ k, SlotLaw t.ctl.mode (t.chan k))
    (hfree : ∀ g, t.group g = GroupState.free) (hheld : t.port.held = none) : Lawful ∅ t :=
  lawful_of_free hslots hfree hheld fun k hk => by
    obtain ⟨d, hd⟩ := Option.ne_none_iff_exists'.mp hk
    exact ((hslots k).configured d hd).out hm

theorem Lawful.held_none {s : State} (h : Lawful ∅ s) (hm : s.ctl.mode ≠ .run) : s.port.held = none := by
  cases hw : s.port.held with
  | none => rfl
  | some w => exact absurd (h.heldRun w hw).1 hm

/-! ### Between two transitions -/

/-- The laws of the part while an event is half done: what the arbiter has to issue and what the transition waits
for are open. -/
structure Settling (s : State) : Prop where
  lawful : Lawful ∅ s
  mid : Mid none s
  holdBack : HoldBackLaw s

theorem Core.settling {s : State} (h : Core s) : Settling s := ⟨h.lawful, h.mid, h.holdBack⟩

theorem Settling.arbitrate {s : State} (h : Settling s) (hawaited : Awaited s) : Core (arbitrate s) :=
  core_arbitrate h.lawful h.mid hawaited h.holdBack

theorem Settling.of_local {s t : State} {c : Chan} (h : Settling s) (hst : Local c s t) (hlawful : Lawful ∅ t) :
    Settling t :=
  ⟨hlawful, h.mid.of_local hst, h.holdBack.of_local hst⟩

section
variable {s t : State}

/-- A change of the channels and the mode that leaves the bus and the port alone. -/
theorem Mid.of_table {ended : Option Chan} (h : Mid ended s) (hsame : (t.down, t.port) = (s.down, s.port))
    (hdesc : ∀ k, (t.chan k).desc = (s.chan k).desc)
    (haddress : t.ctl.heartbeatAddress = s.ctl.heartbeatAddress)
    (hsettled : t.ctl.mode.isTransition = false → ∀ k, (t.chan k).transitionMark = false)
    (hmarks : ∀ k, (t.chan k).transitionMark = true → (t.chan k).slot.isSome = true ∨
      (s.chan k).transitionMark = true ∧ (t.chan k).slot = (s.chan k).slot) : Mid ended t := by
  simp only [Prod.mk.injEq] at hsame
  obtain ⟨hdown, hport⟩ := hsame
  refine ⟨h.address.of_desc hdesc haddress, h.pass.of_desc hdesc fun hs => ?_, ?_, ?_, ?_, ?_, fun f hf => ?_, hsettled,
    fun k hne hk => ?_⟩
  · rw [hport] at hs ⊢
    exact ⟨hs, rfl⟩
  · rw [hport]
    exact h.port
  · rw [hport, hdown]
    exact h.passOn
  · rw [hdown]
    exact h.timer
  · rw [hdown]
    exact h.passBurst
  · rw [hdown] at hf ⊢
    rw [hdesc]
    exact h.flight f hf
  · rw [hdown]
    rcases hmarks k hk with hslot | ⟨hmark, hslot⟩
    · exact .inl hslot
    · rw [hslot]
      exact h.marks k hne hmark

/-- No request is held back outside CONFIG (R11). -/
theorem HoldBackLaw.pendingSet (h : HoldBackLaw s) (hm : s.ctl.mode ≠ .config) : s.mgmt.pendingSet = none := by
  cases hq : s.mgmt.pendingSet with
  | none => rfl
  | some q => exact absurd (h q hq).1 hm

theorem Settling.recordModeChanged (h : Settling s) : Settling (recordModeChanged s) :=
  h.of_local (c := 0) (local_record 0 _ _ _ _ _ s) (h.lawful.record _ _ _ _ _)

/-! ### The completions (R144, R149, R150) -/

theorem enterRun_mark (x : Channel) : x.enterRun.transitionMark = x.transitionMark := by
  unfold Channel.enterRun
  split
  · split <;> rfl
  · rfl

theorem enterConfig_mark (x : Channel) : x.enterConfig.transitionMark = x.transitionMark := by
  unfold Channel.enterConfig
  split
  · split <;> rfl
  · rfl

section
variable (h : Settling s) (hmarks : ∀ k, (s.chan k).transitionMark = false)
include h hmarks

theorem Settling.completeRun (hm : s.ctl.mode ≠ .run) (hconfig : s.ctl.mode ≠ .config) :
    Settling (completeRun s) := by
  have hmark (k : Chan) : ((runReached s).chan k).transitionMark = false := by
    rw [runReached_chan, enterRun_mark]
    exact hmarks k
  have hdesc (k : Chan) : ((runReached s).chan k).desc = (s.chan k).desc := by
    rw [runReached_chan]
    unfold Channel.enterRun
    split
    · split <;> rfl
    · rfl
  rw [completeRun_eq]
  refine Settling.recordModeChanged (s := runReached s) ⟨lawful_of_free (fun k => ?_) (h.lawful.free hm)
    (h.lawful.held_none hm) fun k hk => ?_, h.mid.of_table rfl hdesc rfl (fun _ => hmark) fun k hk => ?_,
    .of_none (h.holdBack.pendingSet hconfig)⟩
  · rw [runReached_chan]
    exact (h.lawful.slots k).enterRun hm
  · rw [hdesc] at hk
    obtain ⟨d, hd⟩ := Option.ne_none_iff_exists'.mp hk
    rw [runReached_chan]
    by_cases hfault : (s.chan k).state = .fault
    · rw [enterRun_other (.inr hfault), hfault]
      exact ⟨nofun, rfl⟩
    · rw [enterRun_healthy hd hfault]
      exact ⟨nofun, rfl⟩
  · rw [hmark] at hk
    cases hk

theorem Settling.completeSafe (hm : s.ctl.mode ≠ .run) (hconfig : s.ctl.mode ≠ .config) :
    Settling (completeSafe s) := by
  refine Settling.recordModeChanged (s := setMode .safe s) ⟨lawful_outside (by nofun) (fun k => ?_) (h.lawful.free hm)
    (h.lawful.held_none hm), h.mid.of_table rfl (fun _ => rfl) rfl (fun _ => hmarks) fun k hk => ?_,
    .of_none (h.holdBack.pendingSet hconfig)⟩
  · exact (h.lawful.slots k).remoded hm nofun fun _ => nofun
  · exact nomatch hk.symm.trans (hmarks k)

theorem Settling.completeConfig (hm : s.ctl.mode ≠ .run) (hconfig : s.ctl.mode ≠ .config) :
    Settling (completeConfig s) := by
  have hchan (k : Chan) : (mapChans Channel.enterConfig (setMode .config s)).chan k = (s.chan k).enterConfig :=
    mapChans_chan (setMode .config s) k Channel.enterConfig
  refine Settling.recordModeChanged (s := mapChans Channel.enterConfig (setMode .config s))
    ⟨lawful_outside (by nofun) (fun k => ?_) (h.lawful.free hm) (h.lawful.held_none hm),
    h.mid.of_table rfl (fun k => ?_) rfl (fun _ k => ?_) fun k hk => ?_, .of_none (h.holdBack.pendingSet hconfig)⟩
  · rw [hchan]
    exact (h.lawful.slots k).enterConfig hm
  · rw [hchan]
    unfold Channel.enterConfig
    split
    · split <;> rfl
    · rfl
  · rw [hchan, enterConfig_mark]
    exact hmarks k
  · rw [hchan, enterConfig_mark, hmarks] at hk
    cases hk

end

/-- The report of the end of a transition: it completes with no mark left, else it waits (R142). -/
theorem Settling.transitionReport (h : Settling s) :
    Settling (transitionReport s) ∧ Awaited (transitionReport s) := by
  cases hnone : s.noMarks with
  | false =>
    have heq : Machine.transitionReport s = s := by simp [Machine.transitionReport, hnone]
    rw [heq]
    exact ⟨h, fun _ => marked_iff.mp hnone⟩
  | true =>
    have hmarks := (noMarks_iff s).mp hnone
    have hsettled (hm : s.ctl.mode.isTransition = false) :
        Settling (Machine.transitionReport s) ∧ Awaited (Machine.transitionReport s) := by
      have heq : Machine.transitionReport s = s := by
        cases hmode : s.ctl.mode <;> rw [hmode] at hm <;> simp [Machine.transitionReport, hmode] <;> cases hm
      rw [heq]
      exact ⟨h, fun ht => nomatch hm.symm.trans ht⟩
    cases hmode : s.ctl.mode with
    | config | run | safe => exact hsettled (by rw [hmode]; rfl)
    | enteringRun =>
      rw [transitionReport_enteringRun hmarks hmode]
      exact ⟨h.completeRun hmarks (by rw [hmode]; nofun) (by rw [hmode]; nofun), nofun⟩
    | enteringSafe =>
      rw [transitionReport_enteringSafe hmarks hmode]
      exact ⟨h.completeSafe hmarks (by rw [hmode]; nofun) (by rw [hmode]; nofun), nofun⟩
    | enteringConfig =>
      rw [transitionReport_enteringConfig hmarks hmode]
      exact ⟨h.completeConfig hmarks (by rw [hmode]; nofun) (by rw [hmode]; nofun), nofun⟩

/-! ### The beginnings (R143, R145, R146, R148) -/

/-- The channels, the groups, the bus and the port as they are, in another mode. -/
theorem Settling.remoded (h : Settling s)
    (hsame : (t.channels, t.groups, t.down, t.port) = (s.channels, s.groups, s.down, s.port))
    (haddress : t.ctl.heartbeatAddress = s.ctl.heartbeatAddress) (hpending : t.mgmt.pendingSet = none)
    (hm : s.ctl.mode ≠ .run) (htransition : t.ctl.mode.isTransition = true) : Settling t := by
  simp only [Prod.mk.injEq] at hsame
  obtain ⟨hchannels, hgroups, hdown, hport⟩ := hsame
  have hchan (k : Chan) : t.chan k = s.chan k := by rw [State.chan, State.chan, hchannels]
  have hgroup (g : Group) : t.group g = s.group g := by rw [State.group, State.group, hgroups]
  have hne (m : Mode) (hsettled : m.isTransition = false) : t.ctl.mode ≠ m := fun e => by
    rw [e, hsettled] at htransition
    cases htransition
  refine ⟨lawful_outside (hne .run rfl) (fun k => ?_) (fun g => ?_) ?_, h.mid.of_table (by rw [hdown, hport])
    (fun k => by rw [hchan]) haddress (fun hs => nomatch htransition.symm.trans hs) fun k hk => ?_, .of_none hpending⟩
  · rw [hchan]
    exact (h.lawful.slots k).remoded hm (hne .run rfl) fun _ => hne .config rfl
  · rw [hgroup]
    exact h.lawful.free hm g
  · rw [hport]
    exact h.lawful.held_none hm
  · rw [hchan] at hk ⊢
    exact .inr ⟨hk, rfl⟩

/-- The drives of a transition requested with their marks (R103). -/
theorem Settling.requestTransitionDrives (h : Settling s) (htransition : s.ctl.mode.isTransition = true)
    (value : Descriptor → Byte) : Settling (requestTransitionDrives value s) := by
  have hchange (k : Chan) : SlotChange (s.chan k) ((Machine.requestTransitionDrives value s).chan k) := by
    rw [requestTransitionDrives_chan]
    split
    · split
      · exact .refl _
      · rename_i d hd _
        exact ⟨rfl, fun hn => nomatch hn.symm.trans hd⟩
    · exact .refl _
  have hconfig : s.ctl.mode ≠ .config := fun e => by
    rw [e] at htransition
    cases htransition
  refine ⟨h.lawful.of_slots hchange rfl rfl (.inl rfl), h.mid.of_table rfl (fun k => by rw [(hchange k).1]) rfl
    (fun hs => nomatch htransition.symm.trans hs) fun k hk => ?_, .of_none (h.holdBack.pendingSet hconfig)⟩
  rw [requestTransitionDrives_chan] at hk ⊢
  split at hk
  · split at hk
    · rename_i hfault
      rw [if_pos hfault]
      exact .inr ⟨hk, rfl⟩
    · rename_i hfault
      rw [if_neg hfault]
      exact .inl rfl
  · exact .inr ⟨hk, rfl⟩

/-- The entry to ENTERING_RUN (R143, R145). -/
theorem Settling.beginRun (h : Settling s) (hm : s.ctl.mode ≠ .run) (hpending : s.mgmt.pendingSet = none) :
    Settling (beginRun s) ∧ Awaited (beginRun s) := by
  have hentering : Settling (setMode .enteringRun s) := h.remoded rfl rfl hpending hm rfl
  exact (hentering.requestTransitionDrives rfl _).transitionReport

theorem giveUpStall_all_held {A : Set Chan} (h : Lawful A s) : (giveUpStall (fun _ => true) s).port.held = none := by
  cases hw : s.port.held with
  | none =>
    rw [giveUpStall_eq_self (.inr fun w hw' => nomatch hw.symm.trans hw')]
    exact hw
  | some w =>
    rw [giveUpStall_held (h.stalled (by rw [hw]; rfl)) hw rfl]
    exact endedPort_held _ _ _

/-- RUN left, before the safe drives are requested (R146). -/
def runLeft (next : Mode) (s : State) : State :=
  setHeartbeat none (clearGroups (mapChans Channel.leaveRun (setMode next s)))

theorem clearRun_eq (next : Mode) (s : State) :
    clearRun next s = requestTransitionDrives (·.safe) (runLeft next s) := rfl

theorem runLeft_chan (next : Mode) (s : State) (k : Chan) : (runLeft next s).chan k = (s.chan k).leaveRun :=
  mapChans_chan (setMode next s) k Channel.leaveRun

theorem leaveRun_fields (x : Channel) : x.leaveRun.desc = x.desc ∧ x.leaveRun.transitionMark = x.transitionMark := by
  unfold Channel.leaveRun
  split
  · split <;> exact ⟨rfl, rfl⟩
  · exact ⟨rfl, rfl⟩

theorem Settling.clearRun {next : Mode} (h : Settling s) (hm : s.ctl.mode = .run)
    (hnext : next.isTransition = true) (hheld : s.port.held = none) : Settling (clearRun next s) := by
  have hne (m : Mode) (hsettled : m.isTransition = false) : next ≠ m := fun e => by
    rw [e, hsettled] at hnext
    cases hnext
  have hsettled := h.mid.settled (by rw [hm]; rfl)
  have hleft : Settling (runLeft next s) := by
    refine ⟨lawful_outside (hne .run rfl) (fun k => ?_) (fun g => clearGroups_group (mapChans Channel.leaveRun (setMode next s)) g) hheld,
      h.mid.of_table rfl (fun k => ?_) rfl (fun hs => nomatch hnext.symm.trans hs) fun k hk => ?_,
      .of_none (h.holdBack.pendingSet (by rw [hm]; nofun))⟩
    · rw [runLeft_chan]
      exact (h.lawful.slots k).leaveRun (hne .run rfl) (hne .config rfl)
    · rw [runLeft_chan, (leaveRun_fields _).1]
    · rw [runLeft_chan, (leaveRun_fields _).2, hsettled] at hk
      cases hk
  rw [clearRun_eq]
  exact hleft.requestTransitionDrives hnext _

/-- The mode leaves RUN (R146). -/
theorem Settling.leaveRun {next : Mode} (h : Settling s) (hm : s.ctl.mode = .run) (hnext : next.isTransition = true) :
    Settling (leaveRun next s) ∧ Awaited (leaveRun next s) := by
  have hgiven := local_giveUpStall 0 (fun _ => true) s
  have hstall := h.of_local hgiven (h.lawful.giveUpStall _)
  rw [leaveRun_eq]
  exact (hstall.clearRun (by rw [hgiven.ctl]; exact hm) hnext (giveUpStall_all_held h.lawful)).transitionReport

/-- A change outside the table, the groups, the bus and the port. -/
theorem Settling.of_frame (h : Settling s)
    (hsame : (t.channels, t.groups, t.down, t.port) = (s.channels, s.groups, s.down, s.port))
    (hmode : t.ctl.mode = s.ctl.mode) (haddress : AddressLaw t) (hholdBack : HoldBackLaw t) : Settling t := by
  simp only [Prod.mk.injEq] at hsame
  obtain ⟨hchannels, hgroups, hdown, hport⟩ := hsame
  have hchan (k : Chan) : t.chan k = s.chan k := by rw [State.chan, State.chan, hchannels]
  have hdesc (k : Chan) : (t.chan k).desc = (s.chan k).desc := by rw [hchan]
  refine ⟨h.lawful.of_same (by rw [hchannels, hgroups, hmode]) (.inl hport), ?_, hholdBack⟩
  refine ⟨haddress, h.mid.pass.of_desc hdesc fun hs => ?_, hport ▸ h.mid.port, by rw [hport, hdown]; exact h.mid.passOn,
    by rw [hdown]; exact h.mid.timer, by rw [hdown]; exact h.mid.passBurst, fun f hf => ?_, fun hs k => ?_,
    fun k hne hk => ?_⟩
  · rw [hport] at hs ⊢
    exact ⟨hs, rfl⟩
  · rw [hdown] at hf ⊢
    rw [hdesc]
    exact h.mid.flight f hf
  · rw [hchan]
    exact h.mid.settled (hmode ▸ hs) k
  · rw [hchan] at hk ⊢
    rw [hdown]
    exact h.mid.marks k hne hk

theorem Core.of_frame (h : Core s)
    (hsame : (t.channels, t.groups, t.down, t.port) = (s.channels, s.groups, s.down, s.port))
    (hmode : t.ctl.mode = s.ctl.mode) (haddress : AddressLaw t) (hholdBack : HoldBackLaw t) : Core t := by
  obtain ⟨hlawful, hmid, -⟩ := h.settling.of_frame hsame hmode haddress hholdBack
  simp only [Prod.mk.injEq] at hsame
  obtain ⟨hchannels, -, hdown, hport⟩ := hsame
  have hchan (k : Chan) : t.chan k = s.chan k := by rw [State.chan, State.chan, hchannels]
  refine ⟨hlawful, hmid, fun hbus => ?_, fun hm => ?_, hholdBack⟩
  · rw [hdown] at hbus ⊢
    rw [hport]
    obtain ⟨hburst, hwait, hslots⟩ := h.quiet hbus
    exact ⟨hburst, hwait, fun k => by rw [hchan, hslots]⟩
  · obtain ⟨k, hk⟩ := h.awaited (hmode ▸ hm)
    exact ⟨k, by rw [hchan]; exact hk⟩

/-- A change of the mode controller beside the mode and the heartbeat address, of the event unit or of the pins. -/
theorem Core.of_blocks (h : Core s)
    (hsame : (t.channels, t.groups, t.down, t.port, t.mgmt) = (s.channels, s.groups, s.down, s.port, s.mgmt))
    (hctl : (t.ctl.mode, t.ctl.heartbeatAddress) = (s.ctl.mode, s.ctl.heartbeatAddress)) : Core t := by
  simp only [Prod.mk.injEq] at hsame hctl
  obtain ⟨hchannels, hgroups, hdown, hport, hmgmt⟩ := hsame
  obtain ⟨hmode, haddress⟩ := hctl
  have hdesc (k : Chan) : (t.chan k).desc = (s.chan k).desc := by rw [State.chan, State.chan, hchannels]
  refine h.of_frame (by rw [hchannels, hgroups, hdown, hport]) hmode (h.mid.address.of_desc hdesc haddress)
    (h.holdBack.of_same hmgmt hmode (targetConflicts_congr hdesc haddress) fun a ha => ?_)
  rw [passInProgressTo_iff] at ha ⊢
  rwa [hport]

/-- The mode leaves RUN for ENTERING_SAFE (R147, R148, R152). -/
theorem Core.leaveRunToSafe (h : Core s) (hm : s.ctl.mode = .run) (cause : SafeCause) :
    Core (Machine.arbitrate (leaveRunToSafe cause s)) := by
  have hcause : Core (setSafeCause cause s) := h.of_blocks rfl rfl
  obtain ⟨hsettling, hawaited⟩ := hcause.settling.leaveRun (next := .enteringSafe) hm rfl
  exact hsettling.arbitrate hawaited

theorem Core.beginRun (h : Core s) (hm : s.ctl.mode ≠ .run) (hpending : s.mgmt.pendingSet = none) :
    Core (Machine.arbitrate (beginRun s)) := by
  obtain ⟨hsettling, hawaited⟩ := h.settling.beginRun hm hpending
  exact hsettling.arbitrate hawaited

/-- SAFE# low, as the mode controller acts on it (R148). -/
theorem Core.actOnSafeLow (h : Core s) : Core (Machine.arbitrate (actOnSafeLow s)) := by
  unfold Machine.actOnSafeLow
  split
  · exact h.leaveRunToSafe ‹_› _
  · rename_i hm
    have hentering : Settling (setMode .enteringSafe (setSafeCause .safeLine s)) :=
      h.settling.remoded rfl rfl (h.holdBack.pendingSet (by rw [hm]; nofun)) (by rw [hm]; nofun) rfl
    obtain ⟨hsettling, hawaited⟩ := (hentering.requestTransitionDrives rfl (·.safe)).transitionReport
    exact hsettling.arbitrate hawaited
  all_goals exact h.arbitrate

theorem Core.heartbeatExpires (h : Core s) : Core (heartbeatExpires s) := by
  unfold Machine.heartbeatExpires State.onEvent
  split
  · rename_i htaken
    have hm : s.ctl.mode = .run := by
      simp only [Bool.and_eq_true, beq_iff_eq] at htaken
      exact htaken.2.1
    have hrecorded : Core (record .heartbeatLost none none none none s) := h.of_blocks rfl rfl
    exact hrecorded.leaveRunToSafe hm _
  · exact h

end

end Sys2Proof.Machine
end

section
/-! The management commands keep the laws of the part (chapters 1 and 11). -/

namespace Sys2Proof.Machine

section
variable {s t : State}

/-! ### Requests (R176, R178) -/

/-- While a request can be taken, none is held back (R179). -/
theorem HoldBackLaw.pendingSet_of_request (h : HoldBackLaw s) (hphase : s.mgmt.phase = .request) :
    s.mgmt.pendingSet = none := by
  cases hq : s.mgmt.pendingSet with
  | none => rfl
  | some q =>
    obtain ⟨-, -, -, -, -, hp | hp | hp⟩ := h q hq <;> rw [hphase] at hp <;> cases hp

theorem Core.respond (h : Core s) (hp : s.mgmt.pendingSet = none) (r : Status) (p : List Byte) :
    Core (respond r p s) :=
  h.of_frame rfl rfl h.mid.address (.of_none hp)

/-- A request taken: nothing, a refusal, or what its rule does with no request held back. -/
theorem Core.takeRequest (h : Core s) (n : Nat) (a : Acceptance) (p : List Byte)
    (ht : s.mgmt.pendingSet = none → takenIn a s.ctl.mode = true → Core t) : Core (takeRequest n a p s t) := by
  rcases takeRequest_cases n a p s t with heq | ⟨hphase, r, heq⟩ | ⟨-, hphase, -, hmode, heq⟩ <;> rw [heq]
  · exact h
  · exact h.respond (h.holdBack.pendingSet_of_request hphase) r []
  · exact ht (h.holdBack.pendingSet_of_request hphase) hmode

theorem Core.withChannel (h : Core s) (hp : s.mgmt.pendingSet = none) (p : List Byte) {f : Chan → State}
    (hf : ∀ c, Core (f c)) : Core (withChannel p s f) := by
  rcases withChannel_cases p s f with heq | ⟨c, -, heq⟩ <;> rw [heq]
  · exact h.respond hp _ _
  · exact hf c

/-- A request answered with no other change but in the event unit or the management port. -/
theorem Core.answered (h : Core s) (hp : s.mgmt.pendingSet = none) {r : Status} {p : List Byte}
    (hsame : (t.channels, t.groups, t.down, t.port, t.ctl, t.mgmt) =
      (s.channels, s.groups, s.down, s.port, s.ctl, s.mgmt)) : Core (Machine.respond r p t) := by
  simp only [Prod.mk.injEq] at hsame
  obtain ⟨hchannels, hgroups, hdown, hport, hctl, hmgmt⟩ := hsame
  have ht : Core t := h.of_blocks (by rw [hchannels, hgroups, hdown, hport, hmgmt]) (by rw [hctl])
  exact ht.respond (hmgmt ▸ hp) r p

theorem core_getInfo (h : Core s) (p : List Byte) : ∃ t, exec (.getInfo p) s = .next t ∧ Core t :=
  ⟨_, rfl, h.takeRequest _ _ _ fun hp _ => h.answered hp rfl⟩

theorem core_getStatus (h : Core s) (p : List Byte) : ∃ t, exec (.getStatus p) s = .next t ∧ Core t :=
  ⟨_, rfl, h.takeRequest _ _ _ fun hp _ => h.answered hp rfl⟩

theorem core_getChannel (h : Core s) (p : List Byte) : ∃ t, exec (.getChannel p) s = .next t ∧ Core t :=
  ⟨_, rfl, h.takeRequest _ _ _ fun hp _ => h.withChannel hp _ fun _ => h.answered hp rfl⟩

theorem core_readEvents (h : Core s) (p : List Byte) : ∃ t, exec (.readEvents p) s = .next t ∧ Core t := by
  refine ⟨_, rfl, h.takeRequest _ _ _ fun hp _ => ?_⟩
  dsimp only
  split
  · exact h.answered hp rfl
  · exact h.answered hp (t := removeEvents _ s) rfl

theorem core_readFlags (h : Core s) (p : List Byte) : ∃ t, exec (.readFlags p) s = .next t ∧ Core t :=
  ⟨_, rfl, h.takeRequest _ _ _ fun hp _ => h.answered hp (t := clearFlags s) rfl⟩

theorem core_setEnables (h : Core s) (p : List Byte) : ∃ t, exec (.setEnables p) s = .next t ∧ Core t := by
  refine ⟨_, rfl, h.takeRequest _ _ _ fun hp _ => ?_⟩
  split
  · exact h.answered hp rfl
  · exact h.answered hp (t := writeEnables _ s) rfl

theorem core_resetDevice (h : Core s) (p : List Byte) : ∃ t, exec (.resetDevice p) s = .next t ∧ Core t :=
  ⟨_, rfl, h.takeRequest _ _ _ fun hp _ => h.of_frame rfl rfl h.mid.address (.of_none hp)⟩

theorem core_badCommand (h : Core s) (frame : List Byte) : ∃ t, exec (.badCommand frame) s = .next t ∧ Core t := by
  change ∃ t, execBadCommand frame s = .next t ∧ Core t
  unfold execBadCommand
  refine ⟨_, rfl, ?_⟩
  split
  · exact h
  · split
    · exact h
    · unfold State.onEvent
      split
      · rename_i htaken
        simp only [Bool.and_eq_true, beq_iff_eq] at htaken
        exact h.respond (h.holdBack.pendingSet_of_request htaken.2) _ _
      · exact h

/-- SET_DEVICE keeps the heartbeat address off the governed ones (R8, R154). -/
theorem core_setDevice (h : Core s) (p : List Byte) : ∃ t, exec (.setDevice p) s = .next t ∧ Core t := by
  refine ⟨_, rfl, h.takeRequest _ _ _ fun hp _ => ?_⟩
  split
  · exact h.answered hp rfl
  · split
    · exact h.answered hp rfl
    · rename_i hgoverned
      rw [Option.not_isSome_iff_eq_none, governed_eq_none_iff] at hgoverned
      obtain ⟨hdistinct, -⟩ := h.mid.address
      refine h.of_frame (t := Machine.respond .ok [] (storeSettings _ _ _ s)) rfl rfl
        ⟨hdistinct, hgoverned⟩ (.of_none hp)

/-! ### The transitions (R143, R145, R147, R150) -/

theorem Core.begun (h : Core s) (hp : s.mgmt.pendingSet = none) (hm : s.ctl.mode ≠ .run) :
    Core (if s.pins.safeHigh then Machine.respond .accepted [] (Machine.arbitrate (Machine.beginRun s))
      else Machine.respond .safeLine [] s) := by
  split
  · refine (h.beginRun hm hp).respond ?_ _ _
    rw [arbitrate_mgmt, Machine.beginRun, (transitionReport_mgmt_pins _).1]
    exact hp
  · exact h.respond hp _ _

theorem core_start (h : Core s) (p : List Byte) : ∃ t, exec (.start p) s = .next t ∧ Core t := by
  refine ⟨_, rfl, h.takeRequest _ _ _ fun hp hm => h.begun hp ?_⟩
  rw [eq_of_beq hm]
  nofun

theorem core_resume (h : Core s) (p : List Byte) : ∃ t, exec (.resume p) s = .next t ∧ Core t := by
  refine ⟨_, rfl, h.takeRequest _ _ _ fun hp hm => h.begun hp ?_⟩
  rw [eq_of_beq hm]
  nofun

theorem leaveRun_mgmt (next : Mode) (s : State) : (leaveRun next s).mgmt = s.mgmt := by
  rw [leaveRun_eq, (transitionReport_mgmt_pins _).1]
  exact (giveUpStall_mgmt_pins (fun _ => true) s).1

theorem core_stop (h : Core s) (p : List Byte) : ∃ t, exec (.stop p) s = .next t ∧ Core t := by
  refine ⟨_, rfl, h.takeRequest _ _ _ fun hp hm => ?_⟩
  split
  · rename_i hrun
    obtain ⟨hsettling, hawaited⟩ := h.settling.leaveRun (next := .enteringConfig) hrun rfl
    refine (hsettling.arbitrate hawaited).respond ?_ _ _
    rw [arbitrate_mgmt, leaveRun_mgmt]
    exact hp
  · rename_i hrun
    have hsafe : s.ctl.mode = .safe := by simpa [takenIn, hrun] using hm
    have hmarks := h.mid.settled (by rw [hsafe]; rfl)
    have hcompleted := h.settling.completeConfig hmarks hrun (by rw [hsafe]; nofun)
    have hchan (k : Chan) : (completeConfig s).chan k = (s.chan k).enterConfig :=
      mapChans_chan (setMode .config s) k Channel.enterConfig
    have hcore : Core (completeConfig s) := by
      refine ⟨hcompleted.lawful, hcompleted.mid, fun hbus => ?_, nofun, hcompleted.holdBack⟩
      obtain ⟨hburst, hwait, hslots⟩ := h.quiet hbus
      refine ⟨hburst, hwait, fun k => ?_⟩
      rw [hchan, ← hslots k]
      unfold Channel.enterConfig
      split
      · split <;> rfl
      · rfl
    exact hcore.respond hp _ _

theorem core_enterSafe (h : Core s) (p : List Byte) : ∃ t, exec (.enterSafe p) s = .next t ∧ Core t := by
  refine ⟨_, rfl, h.takeRequest _ _ _ fun hp _ => ?_⟩
  split
  · rename_i hrun
    refine (h.leaveRunToSafe hrun _).respond ?_ _ _
    rw [arbitrate_mgmt, leaveRunToSafe, leaveRun_mgmt]
    exact hp
  · exact h.respond hp _ _

end

/-! ### The channel table (R10 to R13, R95) -/

section
variable {s : State} {c : Chan} {y : Channel}

/-- A slot configured anew or emptied, a drive in flight for it detached. -/
theorem Mid.reconfigured (h : Mid none s) (hsettled : s.ctl.mode.isTransition = false)
    (hmark : y.transitionMark = false) (hfree : ∀ d, y.desc = some d →
      targetConflicts c d.target s = false ∧ passInProgressTo d.target s = false) :
    Mid none (detach c (s.setChan c y)) := by
  have hchan (k : Chan) : (detach c (s.setChan c y)).chan k = if k = c then y else s.chan k := by
    rw [detach_eq]
    exact setChan_chan s c k y
  have htarget (k : Chan) (a : Addr) (hne : k ≠ c) (hy : y.desc.map (·.target) = some a) :
      (s.chan k).desc.map (·.target) ≠ some a := fun hk => by
    obtain ⟨d, hd, rfl⟩ := Option.map_eq_some_iff.mp hy
    have hconflict := (targetConflicts_iff (c := c)).mpr (.inl ⟨k, hne, hk⟩)
    rw [(hfree d hd).1] at hconflict
    cases hconflict
  obtain ⟨hdistinct, hheartbeat⟩ := h.address
  have hmarks (k : Chan) : ((detach c (s.setChan c y)).chan k).transitionMark = false := by
    rw [hchan]
    split
    · exact hmark
    · exact h.settled hsettled k
  have hdown : (detach c (s.setChan c y)).down = detachedBus c s.down := by rw [detach_eq]; rfl
  have hport : (detach c (s.setChan c y)).port = s.port := by rw [detach_eq]; rfl
  have hctl : (detach c (s.setChan c y)).ctl = s.ctl := by rw [detach_eq]; rfl
  refine ⟨⟨fun k j hkj hsome => ?_, fun k => ?_⟩, fun hs k hk => ?_, by rw [hport]; exact h.port, ?_, ?_, ?_,
    fun f hf => ?_, fun _ => hmarks, fun k _ hk => nomatch (hmarks k).symm.trans hk⟩
  · rw [hchan] at hsome
    rw [hchan, hchan]
    by_cases hkc : k = c
    · have hjc : j ≠ c := fun e => hkj (hkc.trans e.symm)
      rw [if_pos hkc] at hsome ⊢
      rw [if_neg hjc]
      obtain ⟨d, hd⟩ := Option.isSome_iff_exists.mp hsome
      rw [hd]
      exact fun e => htarget j d.target hjc (by rw [hd]; rfl) e.symm
    · rw [if_neg hkc] at hsome ⊢
      by_cases hjc : j = c
      · rw [if_pos hjc]
        obtain ⟨d, hd⟩ := Option.isSome_iff_exists.mp hsome
        intro e
        exact htarget k d.target hkc (e.symm.trans (by rw [hd]; rfl)) (by rw [hd]; rfl)
      · rw [if_neg hjc]
        exact hdistinct k j hkj hsome
  · rw [hchan, hctl]
    split
    · intro hy
      obtain ⟨d, hd, hd'⟩ := Option.map_eq_some_iff.mp hy
      have hconflict := (targetConflicts_iff (c := c)).mpr (.inr hd')
      rw [(hfree d hd).1] at hconflict
      cases hconflict
    · exact hheartbeat k
  · rw [hport] at hs hk
    have hgoverned := governed_eq_none_iff.mp (h.pass hs k hk)
    refine governed_eq_none_iff.mpr fun j => ?_
    rw [hchan]
    split
    · intro hy
      obtain ⟨d, hd, hd'⟩ := Option.map_eq_some_iff.mp hy
      have hpass := passInProgressTo_iff.mpr ⟨k, hk, hs, hd'.symm⟩
      rw [(hfree d hd).2] at hpass
      cases hpass
    · exact hgoverned j
  · rw [hport, hdown, h.passOn]
    unfold detachedBus
    split
    · rename_i hb
      split <;> simp [hb]
    · rfl
    · rfl
  · rw [hdown]
    have htimer := h.timer
    unfold detachedBus
    split
    · rename_i hb
      rw [hb] at htimer
      split
      · simpa using htimer
      · rw [hb]
        exact htimer
    all_goals exact htimer
  · rw [hdown]
    have hburst := h.passBurst
    unfold detachedBus
    split
    · rename_i hb
      split
      · nofun
      · rw [hb]
        nofun
    all_goals exact hburst
  · rw [hdown] at hf ⊢
    cases hb : s.down.bus with
    | idle => simp [detachedBus, hb] at hf
    | pass => simp [detachedBus, hb] at hf
    | drive e =>
      obtain ⟨hone, hlimit, haddress⟩ := h.flight e hb
      by_cases hec : e.channel = c
      · simp only [detachedBus, hb, hec, if_true] at hf ⊢
        cases hf
        exact ⟨hone, hlimit, nofun⟩
      · simp only [detachedBus, hb, hec, if_false] at hf ⊢
        cases hf
        rw [hchan, if_neg hec]
        exact ⟨hone, hlimit, haddress⟩

/-- In CONFIG the laws of the records are all there is to keep. -/
theorem Lawful.reconfigured (h : Lawful ∅ s) (hm : s.ctl.mode = .config) (hy : SlotLaw .config y) :
    Lawful ∅ (detach c (s.setChan c y)) := by
  have hmode : s.ctl.mode ≠ .run := by rw [hm]; nofun
  have hframe : detach c (s.setChan c y) =
      { s.setChan c y with down := (detach c (s.setChan c y)).down } := detach_frame c _
  rw [hframe]
  refine lawful_outside (by exact hmode) (fun k => ?_) (h.free hmode) (h.held_none hmode)
  change SlotLaw s.ctl.mode ((s.setChan c y).chan k)
  rw [setChan_chan, hm]
  split
  · exact hy
  · exact hm ▸ h.slots k

end

section
variable {s : State} {c : Chan} {d : Descriptor}

theorem acceptSetChannel_detach (c : Chan) (d : Descriptor) (s : State) :
    acceptSetChannel c d s =
      { detach c (s.setChan c (configured d (s.chan c))) with mgmt := { s.mgmt with pendingSet := none } } := by
  rw [acceptSetChannel_eq, configured_eq, detach_eq]
  rfl

/-- A SET_CHANNEL accepted keeps the laws, and holds no request back any more (R10 to R12). -/
theorem Settling.acceptSetChannel (hlawful : Lawful ∅ s) (hmid : Mid none s) (hm : s.ctl.mode = .config)
    (hd : DescriptorLegal d) (hconflict : targetConflicts c d.target s = false)
    (hpass : passInProgressTo d.target s = false) : Settling (acceptSetChannel c d s) := by
  have hsettled : s.ctl.mode.isTransition = false := by rw [hm]; rfl
  have hdetached : Settling { detach c (s.setChan c (configured d (s.chan c))) with
      mgmt := { s.mgmt with pendingSet := none } } := by
    have hlawful' := hlawful.reconfigured (c := c) hm (slotLaw_configured hd (s.chan c))
    have hmid' := hmid.reconfigured (c := c) (y := configured d (s.chan c)) hsettled (hmid.settled hsettled c)
      fun e he => by
        cases he
        exact ⟨hconflict, hpass⟩
    exact ⟨hlawful'.of_same rfl (.inl rfl),
      hmid'.of_table rfl (fun _ => rfl) rfl hmid'.settled fun _ hk => .inr ⟨hk, rfl⟩, .of_none rfl⟩
  rwa [acceptSetChannel_detach]

theorem awaited_of_settled {t : State} (h : t.ctl.mode.isTransition = false) : Awaited t := fun hm =>
  nomatch h.symm.trans hm

theorem acceptSetChannel_ctl (c : Chan) (d : Descriptor) (s : State) :
    (acceptSetChannel c d s).ctl = s.ctl := by rw [acceptSetChannel_eq]; rfl

theorem core_setChannel (h : Core s) (p : List Byte) : ∃ t, exec (.setChannel p) s = .next t ∧ Core t := by
  refine ⟨_, rfl, h.takeRequest _ _ _ fun hp hm => h.withChannel hp _ fun c => ?_⟩
  have hconfig : s.ctl.mode = .config := eq_of_beq hm
  dsimp only
  split
  · exact h.answered hp rfl
  · rename_i hok
    split
    · exact h.answered hp rfl
    · rename_i hconflict
      rw [Bool.not_eq_true] at hconflict
      have hlegal := descriptorBytesAndDescriptorsAgree.2.1 (p.drop 1) hok
      unfold takeSetChannel
      split
      · rename_i hpass
        refine h.of_frame rfl rfl h.mid.address fun q hq => ?_
        cases hq
        exact ⟨hconfig, hlegal, hconflict, hpass, rfl, .inl rfl⟩
      · rename_i hpass
        rw [Bool.not_eq_true] at hpass
        have hsettling := Settling.acceptSetChannel (c := c) h.lawful h.mid hconfig hlegal hconflict hpass
        have hawaited : Awaited (acceptSetChannel c (descriptorOf (p.drop 1)) s) :=
          awaited_of_settled (by rw [acceptSetChannel_ctl, hconfig]; rfl)
        refine (hsettling.arbitrate hawaited).respond ?_ _ _
        rw [arbitrate_mgmt, acceptSetChannel_eq]

/-- The record that a CLEAR_CHANNEL leaves (R13). -/
def cleared (x : Channel) : Channel :=
  { Channel.empty with lastFault := x.lastFault, transitionMark := x.transitionMark }

theorem cleared_unmarked {x : Channel} (h : x.transitionMark = false) :
    cleared x = { Channel.empty with lastFault := (cleared x).lastFault } := by
  simp [cleared, h, Channel.empty]

theorem clear_eq (c : Chan) (s : State) :
    modChan c cleared (detach c s) = detach c (s.setChan c (cleared (s.chan c))) := by
  rw [detach_eq, detach_eq]
  rfl

theorem core_clearChannel (h : Core s) (p : List Byte) : ∃ t, exec (.clearChannel p) s = .next t ∧ Core t := by
  refine ⟨_, rfl, h.takeRequest _ _ _ fun hp hm => h.withChannel hp _ fun c => ?_⟩
  have hconfig : s.ctl.mode = .config := eq_of_beq hm
  have hsettled : s.ctl.mode.isTransition = false := by rw [hconfig]; rfl
  split
  · exact h.respond hp _ _
  · have hmark := h.mid.settled hsettled c
    have heq := clear_eq c s
    have hlawful : Lawful ∅ (detach c (s.setChan c (cleared (s.chan c)))) :=
      h.lawful.reconfigured hconfig (slotLaw_unconfigured (cleared_unmarked hmark))
    have hmid : Mid none (detach c (s.setChan c (cleared (s.chan c)))) := h.mid.reconfigured hsettled hmark nofun
    have hmgmt : (detach c (s.setChan c (cleared (s.chan c)))).mgmt = s.mgmt := by rw [detach_eq]; rfl
    have hcore : Core (detach c (s.setChan c (cleared (s.chan c)))) := by
      refine ⟨hlawful, hmid, fun hbus => ?_, awaited_of_settled (by rw [detach_eq]; exact hsettled),
        .of_none (by rw [hmgmt]; exact hp)⟩
      have hidle : s.down.bus = .idle := by
        rw [detach_eq] at hbus
        change (detachedBus c s.down).bus = .idle at hbus
        unfold detachedBus at hbus
        split at hbus
        · split at hbus
          · cases hbus
          · exact hbus
        all_goals exact hbus
      obtain ⟨hburst, hwait, hslots⟩ := h.quiet hidle
      have hdown : detachedBus c s.down = s.down := by simp only [detachedBus, hidle]
      rw [detach_eq]
      refine ⟨by change (detachedBus c s.down).burst = 0; rw [hdown]; exact hburst, hwait, fun k => ?_⟩
      change ((s.setChan c (cleared (s.chan c))).chan k).slot = none
      rw [setChan_chan]
      split
      · rfl
      · exact hslots k
    rw [← heq] at hcore hmgmt
    exact hcore.respond (by rw [hmgmt]; exact hp) _ _

/-- Nothing is held back without its cycle, so the row of its own finds nothing to accept (R179). -/
theorem core_heldSetChannelAccept (h : Core s) : ∃ t, exec .heldSetChannelAccept s = .next t ∧ Core t := by
  cases hq : s.mgmt.pendingSet with
  | none =>
    refine ⟨s, ?_, h⟩
    change execHeldSetChannelAccept s = _
    simp [execHeldSetChannelAccept, State.onEvent, hq]
  | some q =>
    obtain ⟨-, -, -, hbusy, -⟩ := h.holdBack q hq
    exact ⟨s, exec_heldSetChannelAccept_busy hq hbusy, h⟩

end

end Sys2Proof.Machine
end

section
/-! The host bus port, the queue commands and the pass-through cycle keep the laws of the part (chapters 2 and 7). -/

namespace Sys2Proof.Machine

/-- The port holds a pass-through cycle, waiting or on the bus. -/
def OnPass (p : HostPort) : Prop := p.state = .passWait ∨ p.state = .passOn

theorem not_onPass_of {p : HostPort} {st : PortState} (h : p.state = st) (hst : st ≠ .passWait ∧ st ≠ .passOn) :
    ¬ OnPass p := by
  rintro (hs | hs)
  · exact hst.1 (h.symm.trans hs)
  · exact hst.2 (h.symm.trans hs)

theorem HoldBackLaw.pendingSet_of_port {s : State} (h : HoldBackLaw s) (hs : ¬ OnPass s.port) :
    s.mgmt.pendingSet = none := by
  cases hq : s.mgmt.pendingSet with
  | none => rfl
  | some q =>
    obtain ⟨-, -, -, hbusy, -⟩ := h q hq
    obtain ⟨-, -, hpass, -⟩ := passInProgressTo_iff.mp hbusy
    exact absurd hpass hs

/-- A change of a port that has no pass-through cycle, before or after. -/
theorem Core.withPort {s : State} {p : HostPort} (h : Core s) (hs : ¬ OnPass s.port) (hp : ¬ OnPass p)
    (hshape : PortShape p) (hlawful : Lawful ∅ { s with port := p }) : Core { s with port := p } := by
  refine ⟨hlawful, ⟨h.mid.address, fun hpass => absurd hpass hp, hshape, ?_, h.mid.timer, h.mid.passBurst,
    h.mid.flight, h.mid.settled, h.mid.marks⟩, fun hbus => ?_, h.awaited, .of_none (h.holdBack.pendingSet_of_port hs)⟩
  · exact ⟨fun hon => absurd (.inr hon) hp, fun hb => absurd (.inr (h.mid.passOn.mpr hb)) hs⟩
  · obtain ⟨hburst, -, hslots⟩ := h.quiet hbus
    exact ⟨hburst, fun hw => hp (.inl hw), hslots⟩

/-- A port without a held write keeps the laws of the table. -/
theorem Core.answeredWith {s : State} {p : HostPort} (h : Core s) (hs : ¬ OnPass s.port) (hp : ¬ OnPass p)
    (hshape : PortShape p) (hheld : p.held = none) : Core { s with port := p } :=
  h.withPort hs hp hshape (h.lawful.of_same rfl (.inr hheld))

/-! ### A write examined (R21 to R25) -/

section
variable {c : Chan} {d : Descriptor} {v : Byte} {o : Origin} {s : State}

theorem abortEffect_slot (gap : Half) (x : Channel) : (abortEffect gap x).slot = x.slot := by
  unfold abortEffect
  split <;> rfl

theorem abortTrain_slot (k : Chan) : ((abortTrain c d s).chan k).slot = (s.chan k).slot := by
  have hemptied : (((if (s.chan c).state = .waiting then withdraw c else id) (emptyQueue c s)).chan k).slot =
      (s.chan k).slot := by
    have hempty : ((emptyQueue c s).chan k).slot = (s.chan k).slot := by
      rw [emptyQueue, modChan, setChan_chan]
      split
      · rename_i hk
        rw [hk]
      · rfl
    split
    · unfold withdraw
      split <;> exact hempty
    · exact hempty
  unfold abortTrain
  dsimp only
  rw [recordChannel_chan, modChan, setChan_chan]
  split
  · rename_i hk
    rw [hk] at hemptied ⊢
    rw [abortEffect_slot]
    exact hemptied
  · exact hemptied

theorem examine_slot (k : Chan) : ((examine c d v o s).2.chan k).slot = (s.chan k).slot := by
  rcases examine_cases c d v o s with ⟨-, h⟩ | ⟨-, h⟩ | ⟨e, -, ⟨-, h⟩ | ⟨-, -, h⟩ | ⟨-, -, h⟩⟩ <;> rw [h]
  · rfl
  · exact abortTrain_slot k
  · rw [appendEntry, modChan, setChan_chan]
    split
    · rename_i hk
      rw [hk]
    · rfl

theorem answerHost_chan (e : EndKind) (a : Option Byte) (k : Chan) : (answerHost e a s).chan k = s.chan k := by
  rw [answerHost_eq]
  rfl

theorem reexamine_slot (k : Chan) : ((reexamine c s).chan k).slot = (s.chan k).slot := by
  rcases reexamine_cases c s with h | ⟨w, d, -, -, -, -, -, h⟩ <;> rw [h]
  rw [answerHost_chan, examine_slot]

/-- An examination that empties no queue leaves a held write on a full queue, or none held. -/
theorem Working.examined (h : Working c d s) (hfull : HeldFull s c)
    (hkeeps : decodeWrite d.kind v o ≠ .abort ∨ s.port.held = none) : Lawful ∅ (Machine.examine c d v o s).2 := by
  refine (h.examine v o).close ?_
  rcases hkeeps with hkeeps | hnone
  · rcases examine_cases c d v o s with ⟨-, he⟩ | ⟨ha, -⟩ | ⟨e, -, ⟨-, he⟩ | ⟨-, hroom, he⟩ | ⟨-, -, he⟩⟩
    · rw [he]
      exact hfull
    · exact absurd ha hkeeps
    · rw [he]
      exact hfull
    · rw [he]
      intro w hw hwc
      obtain ⟨-, hlength⟩ := hfull w hw hwc
      exact absurd hlength (Nat.ne_of_lt hroom)
    · rw [he]
      exact hfull
  · exact .of_none (by rw [examine_port]; exact hnone)

theorem Core.working (h : Core s) (hm : s.ctl.mode = .run) (hd : (s.chan c).desc = some d)
    (hawake : (s.chan c).state ≠ .fault) : Working c d s := .of_lawful h.lawful hm hd hawake

theorem Core.examined (h : Core s) (hm : s.ctl.mode = .run) (hd : (s.chan c).desc = some d)
    (hawake : (s.chan c).state ≠ .fault) (hkeeps : decodeWrite d.kind v o ≠ .abort ∨ s.port.held = none) :
    Core (examine c d v o s).2 :=
  h.of_local (local_examine c d v o s) ((h.working hm hd hawake).examined (h.lawful.full c id) hkeeps) examine_slot

end

/-! ### PURGE and QUEUE_WRITE (R31, R33) -/

section
variable {s : State}

theorem core_purge (h : Core s) (p : List Byte) : ∃ t, exec (.purge p) s = .next t ∧ Core t := by
  refine ⟨_, rfl, h.takeRequest _ _ _ fun hp hm => h.withChannel hp _ fun c => ?_⟩
  have hrun : s.ctl.mode = .run := eq_of_beq hm
  split
  · exact h.respond hp _ _
  · rename_i hsome
    obtain ⟨d, hd⟩ := Option.ne_none_iff_exists'.mp (by simpa using hsome)
    have hlocal : Local c s (purged c s) := (local_emptyQueue c s).trans (local_recordChannel c _ c _ _)
    have hslot (k : Chan) : ((reexamine c (purged c s)).chan k).slot = (s.chan k).slot := by
      rw [reexamine_slot]
      change ((s.setChan c { s.chan c with queue := [] }).chan k).slot = _
      rw [setChan_chan]
      split
      · rename_i hk
        rw [hk]
      · rfl
    have hlawful : Lawful ∅ (reexamine c (purged c s)) := by
      by_cases hfault : (s.chan c).state = .fault
      · have hempty : (s.chan c).queue = [] := ((h.lawful.recordLaw hd).queue).2.2.2 hfault
        have hsame : s.setChan c { s.chan c with queue := [] } = s := by
          rw [← hempty]
          exact setChan_self s c
        have hnone : ∀ w, (purged c s).port.held = some w → w.channel ≠ c := fun w hw hwc =>
          (h.lawful.full c id w hw hwc).1 hfault
        rw [reexamine_eq_self (.inr (.inl hnone))]
        rw [purged, hsame]
        exact h.lawful.recordChannel _ _ _
      · have hworking : Working c d (s.setChan c { s.chan c with queue := [] }) :=
          (h.working hrun hd hfault).move (y := { s.chan c with queue := [] }) hd
            (hrun ▸ h.lawful.recordLaw hd).emptied .rfl rfl hfault
        exact (hworking.recordChannel _ _ _).reexamine
    have hcore := h.of_local (hlocal.trans (local_reexamine c (purged c s))) hlawful hslot
    refine hcore.respond ?_ _ _
    rw [(hlocal.trans (local_reexamine c (purged c s))).mgmt]
    exact hp

theorem core_queueWrite (h : Core s) (p : List Byte) : ∃ t, exec (.queueWrite p) s = .next t ∧ Core t := by
  refine ⟨_, rfl, h.takeRequest _ _ _ fun hp hm => h.withChannel hp _ fun c => ?_⟩
  have hrun : s.ctl.mode = .run := eq_of_beq hm
  dsimp only
  split
  · exact h.answered hp rfl
  · rename_i d hd
    split
    · exact h.answered hp rfl
    · rename_i hawake
      by_cases habort : decodeWrite d.kind (byteAt p 1) .mgmt = .abort
      · have hlocal := local_abortTrain c d s
        have hlocal' := hlocal.trans (local_reexamine c (abortTrain c d s))
        have hexamined := (h.working hrun hd hawake).examine (byteAt p 1) .mgmt
        rw [examine_aborted habort] at hexamined
        rw [queueWriteExamined_aborted habort]
        refine (h.event hlocal' hexamined.reexamine).respond ?_ _ _
        rw [arbitrate_mgmt, hlocal'.mgmt]
        exact hp
      · have hcore := h.examined (v := byteAt p 1) (o := .mgmt) hrun hd hawake (.inl habort)
        have hmgmt : (examine c d (byteAt p 1) .mgmt s).2.mgmt = s.mgmt := (local_examine c d _ _ s).mgmt
        rcases examine_cases c d (byteAt p 1) .mgmt s with ⟨hdecode, he⟩ | ⟨hdecode, -⟩ | ⟨e, hdecode, ⟨ha, he⟩ |
            ⟨ha, hroom, he⟩ | ⟨ha, hfull, he⟩⟩
        · rw [he] at hcore hmgmt
          rw [queueWriteExamined_refused hdecode]
          exact hcore.respond (by rw [hmgmt]; exact hp) _ _
        · exact absurd hdecode habort
        · rw [queueWriteExamined_absorbed hdecode ha]
          exact h.respond hp _ _
        · rw [he] at hcore hmgmt
          rw [queueWriteExamined_appended hdecode ha hroom]
          exact hcore.respond (by rw [hmgmt]; exact hp) _ _
        · rw [queueWriteExamined_full hdecode ha hfull]
          exact h.answered hp rfl

end

end Sys2Proof.Machine
end

section
/-! The host cycles, the pass-through cycle and the drive writes keep the laws of the part (chapters 6 and 7). -/

namespace Sys2Proof.Machine

/-! ### Arrivals (R108, R110, R116 to R118) -/

theorem Core.held_none {s : State} (h : Core s) (hs : s.port.state ≠ .stalled) : s.port.held = none := by
  rw [← Option.not_isSome_iff_eq_none]
  exact fun hheld => hs (h.mid.port.held.mp hheld)

/-- The examination of a write does not look at the port. -/
theorem examine_with_port (c : Chan) (d : Descriptor) (v : Byte) (o : Origin) (s : State) (p : HostPort) :
    examine c d v o { s with port := p } =
      ((examine c d v o s).1, { (examine c d v o s).2 with port := p }) := by
  have hchan : State.chan { s with port := p } c = s.chan c := rfl
  rcases examine_cases c d v o s with ⟨hdecode, he⟩ | ⟨hdecode, he⟩ | ⟨e, hdecode, ⟨ha, he⟩ | ⟨ha, hroom, he⟩ |
      ⟨ha, hfull, he⟩⟩ <;> rw [he]
  · exact examine_refused hdecode
  · rw [examine_aborted hdecode, abortTrain_with_port]
  · exact examine_absorbed hdecode ha
  · exact examine_appended hdecode ha hroom
  · exact examine_meetsFull hdecode ha hfull

section
variable {s : State} (h : Core s) (hidle : s.port.state = .idle)
include h hidle

/-- A cycle answered in the event of its arrival. -/
theorem Core.answeredAtOnce (k : CycleKind) (a : Addr) (v : Option Byte) (d : Option HostDecode) (e : EndKind)
    (b : Option Byte) : Core { s with port := answeredPort k a v d e b } :=
  h.answeredWith (not_onPass_of hidle ⟨nofun, nofun⟩) (not_onPass_of (st := .ending) rfl ⟨nofun, nofun⟩)
    (.answered k a v d e b) rfl

theorem core_governedReadArrives (a : Addr) (c : Chan) : Core (governedReadArrives a c s) := by
  rw [governedReadArrives, answerHost_held rfl]
  exact h.answeredAtOnce hidle .read a none _ .normal _

theorem core_invalidArrives (a : Addr) : Core (invalidArrives a s) := by
  rw [invalidArrives, answerHost_held rfl]
  exact h.answeredAtOnce hidle .invalid a none none .error none

theorem core_arrivesInReset (m : HostStrobes) : Core (arrivesInReset m s) := by
  rw [arrivesInReset, answerHost_held rfl]
  exact h.answeredAtOnce hidle m.kind m.address m.data none .normal _

/-- The pass-through cycle that waits is to no governed address (R110). -/
theorem core_passArrives {a : Addr} (hgoverned : s.governed a = none) (data : Option Byte) :
    Core (passArrives a data s) := by
  have hbus : s.down.bus ≠ .pass := fun hb => nomatch hidle.symm.trans (h.mid.passOn.mpr hb)
  unfold passArrives
  refine core_arbitrate (h.lawful.of_same rfl (.inr rfl)) ⟨h.mid.address, fun _ k hk => ?_, ?_, ?_, h.mid.timer,
    h.mid.passBurst, h.mid.flight, h.mid.settled, h.mid.marks⟩ h.awaited
    (.of_none (h.holdBack.pendingSet_of_port (not_onPass_of hidle ⟨nofun, nofun⟩)))
  · cases hk
    exact hgoverned
  · constructor <;> simp [arrive, HostPort.idle]
  · exact ⟨nofun, fun hb => absurd hb hbus⟩

theorem core_handToQueues {a : Addr} {v : Byte} {c : Chan} {d : Descriptor} (hm : s.ctl.mode = .run)
    (hd : (s.chan c).desc = some d) (hawake : (s.chan c).state ≠ .fault) :
    Core (handToQueues c d v (arrive .write a (some v) (some (.governed c)) s)) := by
  have hstate : s.port.state ≠ .stalled := by rw [hidle]; nofun
  have hexamined := h.examined (v := v) (o := .host) hm hd hawake (.inr (h.held_none hstate))
  have hport : (examine c d v .host s).2.port.state = .idle := by rw [examine_port]; exact hidle
  have hanswered := hexamined.answeredAtOnce hport .write a (some v) (some (.governed c)) .normal none
  rcases examine_cases c d v .host s with ⟨hdecode, he⟩ | ⟨hdecode, he⟩ | ⟨e, hdecode, ⟨ha, he⟩ | ⟨ha, hroom, he⟩ |
      ⟨ha, hfull, he⟩⟩ <;> rw [he] at hanswered
  · rw [handToQueues_refused hdecode, answerHost_held rfl]
    exact hanswered
  · rw [handToQueues_aborted hdecode, show arrive .write a (some v) (some (.governed c)) s =
      { s with port := (arrive .write a (some v) (some (.governed c)) s).port } from rfl, abortTrain_with_port,
      answerHost_held rfl]
    exact hanswered
  · rw [handToQueues_absorbed hdecode (by exact ha), answerHost_held rfl]
    exact hanswered
  · rw [handToQueues_appended hdecode (by exact ha) (by exact hroom), answerHost_held rfl]
    exact hanswered
  · cases hpolicy : d.policy with
    | discard =>
      rw [handToQueues_discarded hdecode (by exact ha) (by exact hfull) hpolicy, answerHost_held rfl]
      have hrecorded : Core (recordChannel .queueFull c v s) := h.of_blocks rfl rfl
      exact hrecorded.answeredAtOnce hidle .write a (some v) (some (.governed c)) .normal none
    | stall =>
      rw [handToQueues_stalled hdecode (by exact ha) (by exact hfull) hpolicy]
      obtain ⟨hlength, -⟩ := (h.lawful.recordLaw hd).queue
      refine h.withPort (not_onPass_of hidle ⟨nofun, nofun⟩) (not_onPass_of (st := .stalled) rfl ⟨nofun, nofun⟩) ?_ ?_
      · constructor <;> simp [arrive, HostPort.idle]
      · refine ⟨h.lawful.slots, fun g => (h.lawful.shape g).congr rfl fun _ => rfl,
          fun k hk => (h.lawful.placed k hk).congr rfl (fun _ => .rfl) (fun _ => .rfl) .rfl rfl, h.lawful.free,
          fun _ => rfl, fun w hw => ?_,
          fun k _ w hw hwk => ?_⟩
        · cases hw
          exact ⟨hm, by change ((s.chan c).desc.any _) = true; rw [hd]; simp [hpolicy]⟩
        · cases hw
          obtain rfl : c = k := hwk
          exact ⟨hawake, Nat.le_antisymm hlength hfull⟩

theorem core_governedWriteArrives {a : Addr} {c : Chan} (hgoverned : s.governed a = some c) (v : Byte) :
    Core (governedWriteArrives a v c s) := by
  obtain ⟨d, hd, -⟩ := governed_desc hgoverned
  by_cases hblocked : s.ctl.mode ≠ .run ∨ (s.chan c).state = .fault
  · rw [governedWriteArrives_blocked hd hblocked, answerHost_recordChannel_arrive]
    have hrecorded : Core (recordChannel .blockedWrite c v s) := h.of_blocks rfl rfl
    exact hrecorded.answeredAtOnce hidle _ _ _ _ _ _
  · have heq : governedWriteArrives a v c s =
        handToQueues c d v (arrive .write a (some v) (some (.governed c)) s) := by
      simp only [governedWriteArrives, hd]
      rw [if_neg hblocked]
    simp only [not_or, not_not] at hblocked
    rw [heq]
    exact core_handToQueues h hidle hblocked.1 hd hblocked.2

theorem core_arrives (m : HostStrobes) : Core (arrives m s) := by
  unfold arrives
  split
  · split
    · exact core_governedReadArrives h hidle _ _
    · exact core_passArrives h hidle ‹_› _
  · split
    · exact core_governedWriteArrives h hidle ‹_› _
    · exact core_passArrives h hidle ‹_› _
  · exact core_invalidArrives h hidle _

end

section
variable {s : State}

theorem Core.onArrival {t : State} (h : Core s) (b : Bool) (m : HostStrobes)
    (ht : s.port.state = .idle → Core t) : Core (s.onArrival b m t) := by
  unfold State.onArrival
  split
  · exact h
  · split
    · split
      · rename_i hidle
        exact ht (eq_of_beq hidle)
      · exact h
    · split
      · exact h
      · exact h.of_blocks rfl rfl

/-! ### The end of the strobes (R124) -/

theorem core_strobesReleased (h : Core s) : Core (strobesReleased s) := by
  unfold strobesReleased
  split
  · exact h
  · rename_i hs
    exact h.answeredWith (not_onPass_of hs ⟨nofun, nofun⟩) (not_onPass_of (st := .idle) rfl ⟨nofun, nofun⟩) .idle rfl
  all_goals
    rename_i hs
    have hne : s.port.state ≠ .idle := by rw [hs]; nofun
    have hshape : PortShape { s.port with released := true } :=
      ⟨h.mid.port.cycle, h.mid.port.stallTimer, h.mid.port.held, h.mid.port.ending, fun hidle => absurd hidle hne⟩
    refine ⟨h.lawful.of_records h.lawful.slots (fun _ => rfl) rfl rfl (.inl rfl), ⟨h.mid.address, h.mid.pass, hshape,
      h.mid.passOn, h.mid.timer, h.mid.passBurst, h.mid.flight, h.mid.settled, h.mid.marks⟩, h.quiet, h.awaited,
      h.holdBack.of_same rfl rfl (fun _ _ => rfl) fun _ ha => ha⟩

theorem core_takeStrobes {arrival : HostStrobes → State → State} (h : Core s)
    (harrival : ∀ m u, Core u → u.port.state = .idle → Core (arrival m u)) : Core (takeStrobes arrival s) := by
  unfold takeStrobes
  split
  · exact h
  · have ht : Core { s with pins := { s.pins with strobes := none } } := h.of_blocks rfl rfl
    dsimp only
    split
    · exact ht
    · split
      · split
        · rename_i hidle
          exact harrival _ _ (core_strobesReleased ht) (eq_of_beq hidle)
        · exact core_strobesReleased ht
      · exact core_strobesReleased ht

/-! ### The end of a pass-through cycle (R11, R112, R113) -/

/-- The bus freed and the port answered, the hold-back still open. -/
theorem Mid.passEnded {t : State} {e : EndKind} {a : Option Byte} (h : Mid none s) (hbus : s.down.bus = .pass)
    (hchannels : t.channels = s.channels) (hdown : t.down = freedBus s.down) (hport : t.port = endedPort s.port e a)
    (hctl : (t.ctl.mode, t.ctl.heartbeatAddress) = (s.ctl.mode, s.ctl.heartbeatAddress)) : Mid none t := by
  simp only [Prod.mk.injEq] at hctl
  obtain ⟨hmode, haddress⟩ := hctl
  have hchan (k : Chan) : t.chan k = s.chan k := by rw [State.chan, State.chan, hchannels]
  have hon : s.port.state ≠ .idle := by rw [h.passOn.mpr hbus]; nofun
  have hnot := endedPort_not_pass s.port e a
  refine ⟨h.address.of_desc (fun k => by rw [hchan]) haddress, fun hs => ?_, ?_, ?_, ?_, ?_, fun f hf => ?_,
    fun hm k => ?_, fun k hne hk => ?_⟩
  · rw [hport] at hs
    exact absurd hs hnot
  · rw [hport]
    exact h.port.ended hon e a
  · rw [hport, hdown]
    exact ⟨fun hs => absurd (.inr hs) hnot, nofun⟩
  · simp [hdown]
  · rw [hdown]
    nofun
  · rw [hdown] at hf
    cases hf
  · rw [hchan]
    exact h.settled (hmode ▸ hm) k
  · rw [hchan] at hk ⊢
    refine .inl ((h.marks k hne hk).resolve_right fun ⟨f, hf, _⟩ => ?_)
    rw [hbus] at hf
    cases hf

/-- The end of the cycle lets a request held back behind it be accepted. -/
theorem core_endPass {t : State} {e : EndKind} {a : Option Byte} (h : Core s) (hbus : s.down.bus = .pass)
    (hsame : (t.channels, t.groups, t.mgmt) = (s.channels, s.groups, s.mgmt)) (hdown : t.down = freedBus s.down)
    (hport : t.port = endedPort s.port e a)
    (hctl : (t.ctl.mode, t.ctl.heartbeatAddress) = (s.ctl.mode, s.ctl.heartbeatAddress)) : Core (endPass t) := by
  simp only [Prod.mk.injEq] at hsame
  obtain ⟨hchannels, hgroups, hmgmt⟩ := hsame
  have hmid := h.mid.passEnded hbus hchannels hdown hport hctl
  simp only [Prod.mk.injEq] at hctl
  obtain ⟨hmode, haddress⟩ := hctl
  have hchan (k : Chan) : t.chan k = s.chan k := by rw [State.chan, State.chan, hchannels]
  have hlawful : Lawful ∅ t :=
    h.lawful.of_same (by rw [hchannels, hgroups, hmode]) (.inr (by rw [hport]; exact endedPort_held _ _ _))
  unfold endPass
  cases hq : t.mgmt.pendingSet with
  | none =>
    have heq : acceptHeld t = t := by simp only [acceptHeld, hq]
    rw [heq]
    refine core_arbitrate hlawful hmid (fun hm => ?_) (.of_none hq)
    obtain ⟨k, hk⟩ := h.awaited (hmode ▸ hm)
    exact ⟨k, by rw [hchan]; exact hk⟩
  | some q =>
    obtain ⟨hconfig, hlegal, hconflict, -⟩ := h.holdBack q (hmgmt ▸ hq)
    rw [← targetConflicts_congr (t := t) (fun k => by rw [hchan]) haddress] at hconflict
    have hfree : passInProgressTo q.descriptor.target t = false :=
      passInProgressTo_eq_false fun _ _ hs => by
        rw [hport] at hs
        exact absurd hs (endedPort_not_pass _ _ _)
    have hm : t.ctl.mode = .config := hmode.trans hconfig
    have haccepted := Settling.acceptSetChannel (c := q.channel) hlawful hmid hm hlegal hconflict hfree
    have hctl' := acceptSetChannel_ctl q.channel q.descriptor t
    have hawaited (u : State) (hu : u.ctl = (acceptSetChannel q.channel q.descriptor t).ctl) : Awaited u :=
      awaited_of_settled (by rw [hu, hctl', hm]; rfl)
    simp only [acceptHeld, hq, hfree, Bool.false_eq_true, if_false]
    split
    · refine Settling.arbitrate (s := respond .ok [] (acceptSetChannel q.channel q.descriptor t)) ?_ (hawaited _ rfl)
      exact haccepted.of_frame rfl rfl haccepted.mid.address (.of_none (by rw [acceptSetChannel_eq]; rfl))
    · exact haccepted.arbitrate (hawaited _ rfl)

/-- A report of a heartbeat write restarts the heartbeat timer at most. -/
theorem reportHeartbeat_same (t : State) :
    ((reportHeartbeat t).channels, (reportHeartbeat t).groups, (reportHeartbeat t).mgmt) =
        (t.channels, t.groups, t.mgmt) ∧
      (reportHeartbeat t).down = t.down ∧ (reportHeartbeat t).port = t.port ∧
      ((reportHeartbeat t).ctl.mode, (reportHeartbeat t).ctl.heartbeatAddress) =
        (t.ctl.mode, t.ctl.heartbeatAddress) := by
  unfold reportHeartbeat
  split <;> exact ⟨rfl, rfl, rfl, rfl⟩

theorem core_passThroughCompletion (h : Core s) (dd : Byte) :
    ∃ t, exec (.passThroughCompletion dd) s = .next t ∧ Core t := by
  refine ⟨_, rfl, ?_⟩
  split
  · exact h
  · rename_i k _
    unfold State.onEvent
    split
    · rename_i htaken
      simp only [Bool.and_eq_true, beq_iff_eq] at htaken
      dsimp only
      rw [answerHost_eq]
      split
      · obtain ⟨hsame, hdown, hport, hctl⟩ := reportHeartbeat_same
          { freeBus s with port := endedPort (freeBus s).port .normal (if k.kind = .read then some dd else none) }
        exact core_endPass h htaken.2.1 hsame hdown hport hctl
      · exact core_endPass h htaken.2.1 rfl rfl rfl rfl
    · exact h

theorem core_passTimeout (h : Core s) : ∃ t, exec .passTimeout s = .next t ∧ Core t := by
  refine ⟨_, rfl, ?_⟩
  split
  · exact h
  · unfold State.onEvent
    split
    · rename_i htaken
      simp only [Bool.and_eq_true, beq_iff_eq] at htaken
      rw [answerHost_eq]
      exact core_endPass h htaken.2.1 rfl rfl rfl rfl
    · exact h

/-! ### The stall (R120, R121) -/

theorem core_stallTimeout (h : Core s) : ∃ t, exec .stallTimeout s = .next t ∧ Core t := by
  refine ⟨_, rfl, ?_⟩
  split
  · exact h
  · rename_i w hw
    unfold State.onEvent
    split
    · rename_i htaken
      simp only [Bool.and_eq_true, beq_iff_eq] at htaken
      have hlocal : Local w.channel s (answerHost .error none (recordChannel .stallTimeout w.channel w.data s)) :=
        (local_recordChannel _ _ _ _ _).trans (local_answerHost (by exact htaken.2.1) _ _ _)
      exact h.of_local hlocal ((h.lawful.recordChannel _ _ _).answerHost _ _)
        fun k => by rw [answerHost_chan]; rfl
    · exact h

theorem core_stallReexamine (h : Core s) : ∃ t, exec .stallReexamine s = .next t ∧ Core t := by
  refine ⟨_, rfl, ?_⟩
  split
  · exact h
  · rename_i w hw
    unfold State.onEvent
    split
    · obtain ⟨hm, hpolicy⟩ := h.lawful.heldRun w hw
      obtain ⟨d, hd, -⟩ := (Option.any_eq_true _ _).mp hpolicy
      obtain ⟨hawake, -⟩ := h.lawful.full w.channel id w hw rfl
      exact h.event (local_reexamine w.channel s) (h.working hm hd hawake).reexamine
    · exact h

/-! ### The ends of a drive write (R101, R103, R104) -/

theorem Mid.freeBus {f : InFlight} (h : Mid none s) (hbus : s.down.bus = .drive f) :
    Mid (some f.channel) (freeBus s) := by
  have hon : s.port.state ≠ .passOn := fun hs => nomatch hbus.symm.trans (h.passOn.mp hs)
  refine ⟨h.address, h.pass, h.port, ⟨fun hs => absurd hs hon, nofun⟩, by simp [Machine.freeBus], nofun,
    fun f hf => (nomatch hf), h.settled, fun k hne hk => ?_⟩
  refine .inl ((h.marks k nofun hk).resolve_right fun ⟨e, he, hek⟩ => ?_)
  cases hbus.symm.trans he
  exact hne (congrArg some hek)

/-- The mark of the channel whose write has ended waits for a pending drive, or is cleared. -/
theorem Mid.updateMark {c : Chan} (h : Mid (some c) s) : Mid none (updateMark c s) := by
  have hclose (t : State) (ht : Mid (some c) t) (hc : (t.chan c).transitionMark = true → (t.chan c).slot.isSome = true) :
      Mid none t :=
    ⟨ht.address, ht.pass, ht.port, ht.passOn, ht.timer, ht.passBurst, ht.flight, ht.settled, fun k _ hk => by
      by_cases hkc : k = c
      · exact .inl (hkc ▸ hc (hkc ▸ hk))
      · exact ht.marks k (fun e => hkc (Option.some.inj e).symm) hk⟩
  rw [updateMark_eq]
  unfold markTested
  split
  · refine hclose _ (h.of_table rfl (fun k => ?_) rfl (fun hm k => ?_) fun k hk => ?_) fun hc => ?_
    · exact setChan_desc (y := { s.chan c with transitionMark := false }) rfl k
    · rw [setChan_chan]
      split
      · rfl
      · exact h.settled hm k
    · rw [setChan_chan] at hk ⊢
      split at hk
      · cases hk
      · rename_i hkc
        rw [if_neg hkc]
        exact .inr ⟨hk, rfl⟩
    · rw [setChan_chan_self] at hc
      cases hc
  · rename_i hslot
    exact hclose _ h fun _ => Option.ne_none_iff_isSome.mp hslot

theorem slotChange_updateMark {A : Set Chan} (h : Lawful A s) (c k : Chan) :
    SlotChange (s.chan k) ((updateMark c s).chan k) := by
  rw [updateMark_eq]
  unfold markTested
  split
  · rw [setChan_chan]
    split
    · rename_i hk
      rw [hk]
      refine ⟨rfl, fun hd => ?_⟩
      rw [(h.slots c).unconfigured hd]
      rfl
    · exact .refl _
  · exact .refl _

theorem core_endDrive {f : InFlight} {w : State} (h : Core s) (hbus : s.down.bus = .drive f)
    (hlocal : Local f.channel (freeBus s) w) (hlawful : Lawful ∅ w) : Core (endDrive f.channel w) := by
  have hfreed : HoldBackLaw (freeBus s) := h.holdBack.of_same rfl rfl (fun _ _ => rfl) fun _ ha => ha
  have hholdBack := hfreed.of_local hlocal
  have hmid := ((h.mid.freeBus hbus).of_local hlocal).updateMark
  have hchange := slotChange_updateMark hlawful f.channel
  have hsettling : Settling (updateMark f.channel w) :=
    ⟨hlawful.of_slots hchange rfl rfl (.inl rfl), hmid, hholdBack.of_same rfl rfl
      (targetConflicts_congr (fun k => by rw [(hchange k).1]) rfl) fun _ ha => ha⟩
  obtain ⟨hreported, hawaited⟩ := hsettling.transitionReport
  exact hreported.arbitrate hawaited

theorem Lawful.freeBus {A : Set Chan} (h : Lawful A s) : Lawful A (freeBus s) := h.of_same rfl (.inl rfl)

/-- The channel of an attached write is configured (R94). -/
theorem Core.flight_desc {f : InFlight} (h : Core s) (hbus : s.down.bus = .drive f) (hattached : f.attached = true) :
    ∃ d, (s.chan f.channel).desc = some d := by
  obtain ⟨-, -, htarget⟩ := h.mid.flight f hbus
  obtain ⟨d, hd, -⟩ := Option.map_eq_some_iff.mp (htarget hattached)
  exact ⟨d, hd⟩

theorem core_driveCompletion (h : Core s) : ∃ t, exec .driveCompletion s = .next t ∧ Core t := by
  refine ⟨_, rfl, ?_⟩
  split
  · rename_i f hbus
    unfold State.onEvent
    split
    · split
      · rename_i hattached
        obtain ⟨d, hd⟩ := h.flight_desc hbus hattached
        exact core_endDrive h hbus (local_creditCompletion f _) (h.lawful.freeBus.creditCompletion hd)
      · exact core_endDrive h hbus (.refl _ _) h.lawful.freeBus
    · exact h
  all_goals exact h

theorem core_driveTimeout (h : Core s) : ∃ t, exec .driveTimeout s = .next t ∧ Core t := by
  refine ⟨_, rfl, ?_⟩
  split
  · rename_i f hbus
    have hrecorded := local_recordChannel f.channel .driveTimeout f.channel f.value (freeBus s)
    have hlawful := h.lawful.freeBus.recordChannel .driveTimeout f.channel f.value
    unfold State.onEvent
    split
    · split
      · rename_i hattached
        obtain ⟨d, hd⟩ := h.flight_desc hbus hattached
        exact core_endDrive h hbus (hrecorded.trans (local_chargeTimeout f _)) (hlawful.chargeTimeout (d := d) hd)
      · exact core_endDrive h hbus hrecorded hlawful
    · exact h
  all_goals exact h

theorem core_onEvent_arbitrate (h : Core s) (b : Bool) : Core (s.onEvent b (arbitrate s)) := by
  unfold State.onEvent
  split
  · exact h.arbitrate
  · exact h

/-- A token given back is granted in its own event, so no waiter is left to a free token (R79, R82). -/
theorem core_grant (h : Core s) (g : Group) : ∃ t, exec (.grant g) s = .next t ∧ Core t := by
  refine ⟨_, rfl, ?_⟩
  unfold State.onEvent
  split
  · rename_i htaken
    simp only [Bool.and_eq_true, Option.isNone_iff_eq_none, Bool.not_eq_true'] at htaken
    rw [(h.lawful.shape g).free htaken.2.1] at htaken
    simp at htaken
  · exact h

end

end Sys2Proof.Machine
end

section
/-! Every command keeps the laws that bind the blocks of the part together. -/

namespace Sys2Proof.Machine

section
variable {s : State}

/-! ### The cadence machines and the feedback supervisor -/

theorem Core.onHold {c : Chan} {condition : Channel → Bool} {body : Descriptor → State → State} (h : Core s)
    (hlocal : ∀ d, Local c s (body d s))
    (hbody : ∀ d p, s.ctl.mode = .run → (s.chan c).desc = some d → d.kind = .hold p →
      condition (s.chan c) = true → Lawful ∅ (body d s)) : Core (onHold c condition body s) := by
  unfold Machine.onHold
  split
  · exact h
  · rename_i d hd
    unfold State.onEvent
    split
    · rename_i htaken
      simp only [Bool.and_eq_true, beq_iff_eq] at htaken
      obtain ⟨hdesc, hkind⟩ := Option.filter_eq_some_iff.mp hd
      split at hkind
      · rename_i p hp
        exact h.event (hlocal d) (hbody d p htaken.2.1 hdesc hp htaken.2.2)
      · cases hkind
    · exact h

theorem Core.onTrain {c : Chan} {condition : Channel → Bool} {body : Descriptor → TrainPart → State → State}
    (h : Core s) (hlocal : ∀ d p, Local c s (body d p s))
    (hbody : ∀ d p, s.ctl.mode = .run → (s.chan c).desc = some d → d.kind = .train p →
      condition (s.chan c) = true → Lawful ∅ (body d p s)) : Core (onTrain c condition body s) := by
  unfold Machine.onTrain
  split
  · exact h
  · rename_i d p hdp
    unfold State.onEvent
    split
    · rename_i htaken
      simp only [Bool.and_eq_true, beq_iff_eq] at htaken
      obtain ⟨e, hdesc, hkind⟩ := Option.bind_eq_some_iff.mp hdp
      split at hkind
      · rename_i hp
        cases hkind
        exact h.event (hlocal d p) (hbody d p htaken.2.1 hdesc hp htaken.2.2)
      · cases hkind
    · exact h

section
variable (h : Core s) (c : Chan)
include h

theorem core_holdHeadTakes : Core (holdHeadTakes c s) := by
  refine h.onHold (fun d => local_takeHoldHeads c d s) fun d p hm hd hk hcondition => ?_
  simp only [Bool.and_eq_true] at hcondition
  refine (h.working hm hd fun hs => ?_).takeHoldHeads hk
  rw [hs] at hcondition
  cases hcondition.1

theorem core_minHoldExpires : Core (minHoldExpires c s) :=
  h.onHold (fun d => local_becomeHeld c d s) fun d p hm hd hk hcondition => by
    simp only [Bool.and_eq_true, beq_iff_eq] at hcondition
    exact h.lawful.becomeHeld hm hd hk hcondition.1

theorem core_maxHoldExpires : Core (maxHoldExpires c s) :=
  h.onHold (fun d => local_forceRelease c d s) fun d p hm hd hk hcondition => by
    simp only [maxHoldDue, Bool.and_eq_true, beq_iff_eq] at hcondition
    exact h.lawful.forceRelease hm hd hk hcondition.1

theorem core_holdRecoveryEnds : Core (holdRecoveryEnds c s) :=
  h.onHold (fun d => local_endHoldRecovery c d s) fun d p hm hd hk hcondition => by
    simp only [Bool.and_eq_true, beq_iff_eq] at hcondition
    exact h.lawful.endHoldRecovery hm hd hk hcondition.1

theorem core_trainHeadTakes : Core (trainHeadTakes c s) :=
  h.onTrain (fun d p => local_takeTrainHead c d p s) fun d p hm hd hk hcondition => by
    simp only [Bool.and_eq_true, beq_iff_eq] at hcondition
    exact h.lawful.takeTrainHead hm hd hk (by rw [hcondition.1]; nofun)

theorem core_markExpires : Core (markExpires c s) :=
  h.onTrain (fun d _ => local_endMark c d s) fun d p hm hd hk hcondition => by
    simp only [Bool.and_eq_true, beq_iff_eq] at hcondition
    exact h.lawful.endMark hm hd hk hcondition.1

theorem core_spaceExpires : Core (spaceExpires c s) :=
  h.onTrain (fun _ p => local_endSpace c p s) fun d p hm hd hk hcondition => by
    simp only [Bool.and_eq_true, beq_iff_eq] at hcondition
    exact h.lawful.endSpace hm hd hk hcondition.1

theorem core_pauseExpires : Core (pauseExpires c s) :=
  h.onTrain (fun d p => local_endPause c d p s) fun d p hm hd hk hcondition => by
    simp only [Bool.and_eq_true, beq_iff_eq] at hcondition
    exact h.lawful.endPause hm hd hk hcondition.1

theorem core_trainRecoveryEnds : Core (trainRecoveryEnds c s) :=
  h.onTrain (fun d p => local_endTrainRecovery c d p s) fun d p hm hd hk hcondition => by
    simp only [Bool.and_eq_true, beq_iff_eq] at hcondition
    exact h.lawful.endTrainRecovery hm hd hk hcondition.1

omit h in
theorem modComparison_slot (op : FeedbackPart → Comparison → Comparison) (k : Chan) :
    ((modComparison c op s).chan k).slot = (s.chan k).slot := by
  unfold modComparison modChan
  rw [setChan_chan]
  split
  · rename_i hk
    rw [hk]
    dsimp only
    split <;> rfl
  · rfl

theorem core_settleExpires : Core (settleExpires c s) := by
  refine h.of_local (local_settleExpires c s) h.lawful.settleExpires fun k => ?_
  unfold settleExpires State.onEvent
  split
  · exact modComparison_slot c _ k
  · rfl

theorem core_filterExpires : Core (filterExpires c s) := by
  unfold filterExpires State.onEvent
  split
  · rename_i htaken
    simp only [Bool.and_eq_true, beq_iff_eq] at htaken
    exact h.event (local_confirmMismatch c s) (h.lawful.confirmMismatch htaken.2.1)
  · exact h

theorem core_actOnSense : Core (actOnSense c s) :=
  h.of_local (local_actOnSense c s) h.lawful.actOnSense (modComparison_slot c _)

end

theorem core_senseChange (h : Core s) (c : Chan) (high : Bool) :
    ∃ t, exec (.senseChange c high) s = .next t ∧ Core t := by
  refine ⟨_, rfl, ?_⟩
  have hpin : Core { s with pins := { s.pins with sense := s.pins.sense.set c.val high } } := h.of_blocks rfl rfl
  split
  · exact core_actOnSense hpin c
  · exact hpin

theorem core_clearFault (h : Core s) (p : List Byte) : ∃ t, exec (.clearFault p) s = .next t ∧ Core t := by
  refine ⟨_, rfl, h.takeRequest _ _ _ fun hp hm => h.withChannel hp _ fun c => ?_⟩
  split
  · exact h.respond hp _ _
  · rename_i d hd
    split
    · exact h.respond hp _ _
    · rename_i hfault
      rw [not_not] at hfault
      split
      · rename_i hrun
        have hlocal := local_clearFaultInRun c d s
        refine (h.event hlocal (h.lawful.clearFaultInRun hd hrun hfault)).respond ?_ _ _
        rw [arbitrate_mgmt, hlocal.mgmt]
        exact hp
      · rename_i hrun
        have hlocal := local_clearFaultInSafe c d s
        refine (h.of_local hlocal (h.lawful.clearFaultInSafe hd hrun hfault) fun k => ?_).respond ?_ _ _
        · rw [clearFaultInSafe_eq hd, setChan_chan]
          split
          · rename_i hk
            rw [hk]
          · rfl
        · rw [hlocal.mgmt]
          exact hp

/-! ### The timebase (R155) -/

theorem core_foldl {op : Chan → State → State} (hop : ∀ c u, Core u → Core (op c u)) (l : List Chan) (h : Core s) :
    Core (l.foldl (fun u c => op c u) s) := by
  induction l generalizing s with
  | nil => exact h
  | cons c l ih => exact ih (hop c s h)

theorem core_takeDueOf (c : Chan) (h : Core s) : Core (takeDueOf c s) := by
  have hhold := core_holdRecoveryEnds (core_maxHoldExpires (core_minHoldExpires h c) c) c
  have htrain := core_trainRecoveryEnds (core_pauseExpires (core_spaceExpires (core_markExpires hhold c) c) c) c
  exact core_filterExpires (core_settleExpires htrain c) c

theorem core_takeDue (h : Core s) : Core (takeDue s) :=
  (core_foldl (fun c _ hu => core_takeDueOf c hu) allChans h).heartbeatExpires

theorem core_takeAppended (h : Core s) : Core (takeAppended s) :=
  core_foldl (fun c _ hu => core_trainHeadTakes (core_holdHeadTakes (core_holdHeadTakes hu c) c) c) allChans h

theorem SlotLaw.tick {m : Mode} {x : Channel} (h : SlotLaw m x) : SlotLaw m x.tick where
  unconfigured hd := by
    rw [h.unconfigured hd]
    rfl
  configured _ hd := (h.configured _ hd).tick

/-- One tick at the timers of every channel. -/
theorem Core.of_tick {t : State} (h : Core s) (hchan : ∀ k, t.chan k = (s.chan k).tick)
    (hgroups : t.groups = s.groups) (hdown : t.down = s.down) (hport : t.port = s.port) (hmgmt : t.mgmt = s.mgmt)
    (hmode : t.ctl.mode = s.ctl.mode) (haddress : t.ctl.heartbeatAddress = s.ctl.heartbeatAddress) : Core t := by
  have hdesc (k : Chan) : (t.chan k).desc = (s.chan k).desc := by rw [hchan, Channel.tick]
  have hmark (k : Chan) : (t.chan k).transitionMark = (s.chan k).transitionMark := by rw [hchan, Channel.tick]
  have hslot (k : Chan) : (t.chan k).slot = (s.chan k).slot := by rw [hchan, Channel.tick]
  have hrecord (k : Chan) : SlotLaw t.ctl.mode (t.chan k) := by
    rw [hchan, hmode]
    exact (h.lawful.slots k).tick
  refine ⟨h.lawful.of_records hrecord (fun k => by rw [hchan, Channel.tick]) hgroups hmode (.inl (by rw [hport])),
    h.mid.of_table (by rw [hdown, hport]) hdesc haddress (fun hm k => ?_) (fun k hk => ?_), fun hbus => ?_, fun hm => ?_,
    h.holdBack.of_same hmgmt hmode (targetConflicts_congr hdesc haddress) fun a ha => ?_⟩
  · rw [hmark]
    rw [hmode] at hm
    exact h.mid.settled hm k
  · rw [hmark] at hk
    exact .inr ⟨hk, hslot k⟩
  · rw [hdown] at hbus
    obtain ⟨hburst, hwait, hslots⟩ := h.quiet hbus
    exact ⟨hdown ▸ hburst, hport ▸ hwait, fun k => (hslot k).trans (hslots k)⟩
  · rw [hmode] at hm
    obtain ⟨k, hk⟩ := h.awaited hm
    exact ⟨k, (hmark k).trans hk⟩
  · rw [passInProgressTo] at ha ⊢
    rwa [hport]

theorem core_advanceTime (h : Core s) : Core (advanceTime s) :=
  h.of_tick (t := advanceTime s) (advanceTime_chan s) (advanceTime_groups s) (advanceTime_down s) (advanceTime_port s)
    (advanceTime_mgmt s) (by rw [advanceTime_ctl]) (by rw [advanceTime_ctl])

theorem core_timestampTick (h : Core s) : ∃ t, exec .timestampTick s = .next t ∧ Core t := by
  refine ⟨_, rfl, ?_⟩
  unfold State.onEvent
  split
  · exact core_advanceTime (core_takeAppended (core_takeDue h))
  · exact h

/-! ### The completions of the transitions -/

/-- A transition completes in the event that ends its last drive, so that the rows of their own find nothing to
complete (R142). -/
theorem core_complete {t : State} (h : Core s) {m : Mode} (hm : m.isTransition = true) :
    Core (s.onEvent (s.ctl.mode == m && s.noMarks) t) := by
  unfold State.onEvent
  split
  · rename_i htaken
    simp only [Bool.and_eq_true, beq_iff_eq] at htaken
    obtain ⟨k, hk⟩ := h.awaited (by rw [htaken.2.1]; exact hm)
    rw [(noMarks_iff s).mp htaken.2.2 k] at hk
    cases hk
  · exact h

/-! ### Resets (R157, R158) -/

theorem afterReset_atRest (p : HostPort) : AtRest p.afterReset := by
  unfold HostPort.afterReset
  split
  · exact ⟨rfl, rfl, .inl ⟨rfl, rfl, rfl⟩⟩
  · split
    · exact ⟨rfl, rfl, .inl ⟨rfl, rfl, rfl⟩⟩
    · exact ⟨rfl, rfl, .inr ⟨rfl, _, rfl, rfl⟩⟩

theorem resetPart_phase (s : State) :
    (resetPart s).mgmt.phase = .closed ∨ (resetPart s).mgmt.phase = .discarding := by
  change (if s.pins.mcsLow then Phase.discarding else .closed) = .closed ∨
    (if s.pins.mcsLow then Phase.discarding else .closed) = .discarding
  split
  · exact .inr rfl
  · exact .inl rfl

theorem resetPart_blank (s : State) : Blank (resetPart s) := by
  refine ⟨rfl, rfl, rfl, rfl, rfl, rfl, rfl, rfl, resetPart_phase s, ?_⟩
  obtain ⟨-, -, ⟨hs, -⟩ | ⟨hs, -⟩⟩ := afterReset_atRest s.port
  · exact .inl hs
  · exact .inr hs

/-- A part in its reset state has the laws, whatever the levels of its inputs. -/
theorem Blank.core (h : Blank s) (hport : AtRest s.port) : Core s := by
  have hstopped : Blank (setClock false s) :=
    ⟨h.channels, h.groups, h.down, h.ctl, h.ev, h.pendingSet, h.resetArmed, h.response, h.phase, h.port⟩
  exact (hstopped.sound hport nofun).core.of_blocks rfl rfl

theorem core_resetPart (s : State) : Core (resetPart s) := (resetPart_blank s).core (afterReset_atRest s.port)

theorem core_takeInputsInReset (h : Core s) (hp : s.mgmt.pendingSet = none) : Core (takeInputsInReset s) := by
  unfold takeInputsInReset
  exact core_takeStrobes (h.of_frame rfl rfl h.mid.address (.of_none hp))
    fun m u hu hidle => core_arrivesInReset hu hidle m

theorem core_endHold {t : State} (h : Core t) (hp : s.heldInReset = true → t.mgmt.pendingSet = none) :
    Core (endHold s t) := by
  unfold endHold
  split
  · rename_i hended
    simp only [Bool.and_eq_true] at hended
    exact core_takeInputsInReset h (hp hended.1)
  · exact h

/-! ### The transaction and the clock (R173, R178, R195) -/

theorem core_openTransaction (h : Core s) : Core (openTransaction s) := by
  refine h.of_frame rfl rfl h.mid.address fun q hq => ?_
  obtain ⟨hm, hlegal, hconflict, hpass, -⟩ := h.holdBack q hq
  refine ⟨hm, hlegal, hconflict, hpass, rfl, .inr (.inr ?_)⟩
  simp [openTransaction, show s.mgmt.pendingSet = some q from hq]

theorem core_closeTransaction (h : Core s) : Core (closeTransaction s) := by
  unfold closeTransaction
  split
  · exact core_resetPart s
  · refine h.of_frame rfl rfl h.mid.address fun q hq => ?_
    obtain ⟨hm, hlegal, hconflict, hpass, -⟩ := h.holdBack q hq
    exact ⟨hm, hlegal, hconflict, hpass, rfl, .inr (.inl rfl)⟩

theorem core_takeSelect (h : Core s) : Core (takeSelect s) := by
  unfold takeSelect
  split
  · exact core_openTransaction h
  · split
    · exact core_closeTransaction h
    · exact h

theorem core_takeArrivals (h : Core s) : Core (takeStrobes arrives s) :=
  core_takeStrobes h fun m _ hu hidle => core_arrives hu hidle m

theorem core_takeSafeLine (h : Core s) : Core (takeSafeLine s) := by
  unfold takeSafeLine
  split
  · exact h
  · exact h.actOnSafeLow

theorem core_takePins (h : Core s) (order : Fin 6) : Core (takePins order s) := by
  unfold takePins
  split
  · exact core_takeSafeLine (core_takeArrivals (core_takeSelect h))
  · exact core_takeArrivals (core_takeSafeLine (core_takeSelect h))
  · exact core_takeSafeLine (core_takeSelect (core_takeArrivals h))
  · exact core_takeSelect (core_takeSafeLine (core_takeArrivals h))
  · exact core_takeArrivals (core_takeSelect (core_takeSafeLine h))
  · exact core_takeSelect (core_takeArrivals (core_takeSafeLine h))

theorem core_clkRunsAgain (h : Core s) (hreset : s.heldInReset = true → s.mgmt.pendingSet = none) :
    ∃ t, exec .clkRunsAgain s = .next t ∧ Core t := by
  refine ⟨_, rfl, ?_⟩
  split
  · exact h
  · have hclock : Core (setClock true s) := h.of_blocks rfl rfl
    unfold takeInputs
    split
    · rename_i hheld
      exact core_takeInputsInReset hclock (hreset hheld)
    · exact core_foldl (fun c _ hu => core_actOnSense hu c) allChans (core_takePins hclock _)

/-! ### Every command -/

theorem core_exec (i : Instr) (h : Core s) (hreset : s.heldInReset = true → s.mgmt.pendingSet = none) :
    ∃ t, exec i s = .next t ∧ Core t := by
  cases i with
  | getInfo p => exact core_getInfo h p
  | getStatus p => exact core_getStatus h p
  | setDevice p => exact core_setDevice h p
  | setChannel p => exact core_setChannel h p
  | clearChannel p => exact core_clearChannel h p
  | getChannel p => exact core_getChannel h p
  | start p => exact core_start h p
  | stop p => exact core_stop h p
  | enterSafe p => exact core_enterSafe h p
  | resume p => exact core_resume h p
  | clearFault p => exact core_clearFault h p
  | purge p => exact core_purge h p
  | queueWrite p => exact core_queueWrite h p
  | readEvents p => exact core_readEvents h p
  | readFlags p => exact core_readFlags h p
  | setEnables p => exact core_setEnables h p
  | resetDevice p => exact core_resetDevice h p
  | badCommand frame => exact core_badCommand h frame
  | transactionOpen =>
    have hselect : Core (setSelect true s) := h.of_blocks rfl rfl
    refine ⟨_, rfl, ?_⟩
    split
    · exact h
    · split
      · exact core_openTransaction hselect
      · exact hselect
  | transactionClose =>
    have hselect : Core (setSelect false s) := h.of_blocks rfl rfl
    refine ⟨_, rfl, ?_⟩
    split
    · exact h
    · split
      · exact core_closeTransaction hselect
      · exact hselect
  | heldSetChannelAccept => exact core_heldSetChannelAccept h
  | governedRead a =>
    refine ⟨_, rfl, ?_⟩
    split
    · exact h
    · exact h.onArrival _ _ fun hidle => core_governedReadArrives h hidle _ _
  | governedWrite a v =>
    refine ⟨_, rfl, ?_⟩
    split
    · exact h
    · exact h.onArrival _ _ fun hidle => core_governedWriteArrives h hidle ‹_› _
  | passThroughArrival a data =>
    refine ⟨_, rfl, ?_⟩
    cases hg : s.governed a with
    | none => exact h.onArrival _ _ fun hidle => core_passArrives h hidle hg _
    | some c => simpa [State.onArrival] using h
  | invalidCycle a => exact ⟨_, rfl, h.onArrival _ _ fun hidle => core_invalidArrives h hidle _⟩
  | hostCycleInReset kind a v => exact ⟨_, rfl, h.onArrival _ _ fun hidle => core_arrivesInReset h hidle _⟩
  | hostCycleEnd =>
    refine ⟨_, rfl, ?_⟩
    split
    · exact core_strobesReleased h
    · split
      · exact h.of_blocks rfl rfl
      · exact h
  | passThroughIssue | driveIssue => exact ⟨_, rfl, core_onEvent_arbitrate h _⟩
  | passThroughCompletion dd => exact core_passThroughCompletion h dd
  | passTimeout => exact core_passTimeout h
  | driveCompletion => exact core_driveCompletion h
  | driveTimeout => exact core_driveTimeout h
  | stallTimeout => exact core_stallTimeout h
  | stallReexamine => exact core_stallReexamine h
  | holdHeadTake c => exact ⟨_, rfl, core_holdHeadTakes h c⟩
  | trainHeadTake c => exact ⟨_, rfl, core_trainHeadTakes h c⟩
  | minHoldExpiry c => exact ⟨_, rfl, core_minHoldExpires h c⟩
  | maxHoldExpiry c => exact ⟨_, rfl, core_maxHoldExpires h c⟩
  | holdRecoveryEnd c => exact ⟨_, rfl, core_holdRecoveryEnds h c⟩
  | markExpiry c => exact ⟨_, rfl, core_markExpires h c⟩
  | spaceExpiry c => exact ⟨_, rfl, core_spaceExpires h c⟩
  | pauseExpiry c => exact ⟨_, rfl, core_pauseExpires h c⟩
  | trainRecoveryEnd c => exact ⟨_, rfl, core_trainRecoveryEnds h c⟩
  | grant g => exact core_grant h g
  | settleExpiry c => exact ⟨_, rfl, core_settleExpires h c⟩
  | filterExpiry c => exact ⟨_, rfl, core_filterExpires h c⟩
  | senseChange c high => exact core_senseChange h c high
  | heartbeatExpiry => exact ⟨_, rfl, h.heartbeatExpires⟩
  | safeLineFall =>
    have hpin : Core (setSafePin false s) := h.of_blocks rfl rfl
    refine ⟨_, rfl, ?_⟩
    split
    · exact hpin.actOnSafeLow
    · exact hpin
  | safeLineRise | clkStops => exact ⟨_, rfl, h.of_blocks rfl rfl⟩
  | resetAssert =>
    refine ⟨_, rfl, ?_⟩
    split
    · exact h
    · exact core_resetPart _
  | supplyFall =>
    refine ⟨_, rfl, ?_⟩
    split
    · exact core_resetPart _
    · exact h
  | resetRelease | supplyWithinRange => exact ⟨_, rfl, core_endHold (h.of_blocks rfl rfl) hreset⟩
  | enteringRunComplete | enteringSafeComplete | enteringConfigComplete => exact ⟨_, rfl, core_complete h rfl⟩
  | timestampTick => exact core_timestampTick h
  | clkRunsAgain => exact core_clkRunsAgain h hreset
  | syncByteSent =>
    refine ⟨_, rfl, ?_⟩
    unfold State.onEvent
    split
    · rename_i htaken
      simp only [Bool.and_eq_true, beq_iff_eq] at htaken
      refine h.of_frame rfl rfl h.mid.address fun q hq => ?_
      obtain ⟨-, -, -, -, hresponse, -⟩ := h.holdBack q hq
      rw [hresponse] at htaken
      cases htaken.2.2
    · exact h
  | responseCrcSent =>
    refine ⟨_, rfl, ?_⟩
    unfold State.onEvent
    split
    · rename_i htaken
      simp only [Bool.and_eq_true, beq_iff_eq] at htaken
      refine h.of_frame rfl rfl h.mid.address fun q hq => ?_
      obtain ⟨-, -, -, -, -, hp | hp | hp⟩ := h.holdBack q hq <;> rw [htaken.2] at hp <;> cases hp
    · exact h

end

end Sys2Proof.Machine
end

section
/-! The input levels a sound state has taken (R143, R148, R157, R173, R195): the commands that leave the pins and the
transaction alone keep them. -/

namespace Sys2Proof.Machine

/-! ### The laws of the inputs -/

/-- The laws of SAFE#, of the reset and of the inputs taken while CLK runs. -/
structure Inputs (s : State) : Prop where
  safe : SafeLineLaw s
  reset : s.heldInReset = true → Blank s
  input : InputLaw s

theorem Sound.inputs {s : State} (h : Sound s) : Inputs s := by
  obtain ⟨-, -, -, -, -, -, -, -, -, -, -, hsafe, -, -, -, hreset, hinput⟩ := h
  refine ⟨hsafe, fun hheld => ?_, hinput⟩
  obtain ⟨hchannels, hgroups, hdown, hctl, hev, hpending, harmed, hresponse, hphase, hport⟩ := hreset hheld
  exact ⟨hchannels, hgroups, hdown, hctl, hev, hpending, harmed, hresponse, hphase, hport⟩

theorem Inputs.resetHoldLaw {s : State} (h : Inputs s) : ResetHoldLaw s := fun hheld =>
  have hblank := h.reset hheld
  ⟨hblank.channels, hblank.groups, hblank.down, hblank.ctl, hblank.ev, hblank.pendingSet, hblank.resetArmed,
    hblank.response, hblank.phase, hblank.port⟩

theorem Blank.of_blocks {s t : State} (h : Blank s)
    (hsame : (t.channels, t.groups, t.down, t.ctl, t.ev, t.mgmt) =
      (s.channels, s.groups, s.down, s.ctl, s.ev, s.mgmt))
    (hport : t.port.state = .idle ∨ t.port.state = .ending) : Blank t := by
  simp only [Prod.mk.injEq] at hsame
  obtain ⟨hchannels, hgroups, hdown, hctl, hev, hmgmt⟩ := hsame
  refine ⟨hchannels.trans h.channels, hgroups.trans h.groups, hdown.trans h.down, hctl.trans h.ctl, hev.trans h.ev,
    ?_, ?_, ?_, ?_, hport⟩ <;> rw [hmgmt]
  · exact h.pendingSet
  · exact h.resetArmed
  · exact h.response
  · exact h.phase

theorem Blank.inputs {s : State} (h : Blank s) (hinput : InputLaw s) : Inputs s where
  safe _ htoward := by
    rw [h.mode] at htoward
    rcases htoward with hm | hm <;> cases hm
  reset _ := h
  input := hinput

/-- With CLK stopped nothing has to be taken. -/
theorem Inputs.of_stopped {s t : State} (h : Inputs s) (hclk : t.pins.clkRunning = false)
    (hsame : (t.channels, t.groups, t.down, t.ctl, t.ev, t.mgmt, t.port) =
      (s.channels, s.groups, s.down, s.ctl, s.ev, s.mgmt, s.port))
    (hheld : t.heldInReset = s.heldInReset) : Inputs t := by
  simp only [Prod.mk.injEq] at hsame
  obtain ⟨hchannels, hgroups, hdown, hctl, hev, hmgmt, hport⟩ := hsame
  refine ⟨fun hlive => ?_, fun hreset => ?_, fun hrun => ?_⟩
  · rw [State.live, hclk] at hlive
    cases hlive
  · have hblank := h.reset (hheld ▸ hreset)
    exact hblank.of_blocks (by rw [hchannels, hgroups, hdown, hctl, hev, hmgmt]) (by rw [hport]; exact hblank.port)
  · rw [hclk] at hrun
    cases hrun

/-! ### Operations that leave the pins and the transaction alone -/

/-- The pins as they were, and the transaction open or closed as it was. -/
structure Steady (s t : State) : Prop where
  pins : t.pins = s.pins
  phase : t.mgmt.phase = .closed ↔ s.mgmt.phase = .closed

theorem Steady.of_eq {s t : State} (h : (t.pins, t.mgmt) = (s.pins, s.mgmt)) : Steady s t := by
  simp only [Prod.mk.injEq] at h
  obtain ⟨hpins, hmgmt⟩ := h
  exact ⟨hpins, by rw [hmgmt]⟩

theorem Calm.steady {s t : State} (h : Calm s t) : Steady s t := .of_eq (by rw [h.pins, h.mgmt])

theorem Steady.refl (s : State) : Steady s s := .of_eq rfl

theorem Steady.trans {s t u : State} (h : Steady s t) (k : Steady t u) : Steady s u :=
  ⟨k.pins.trans h.pins, k.phase.trans h.phase⟩

theorem Steady.arbitrate {s t : State} (h : Steady s t) : Steady s (arbitrate t) := h.trans (calm_arbitrate t).steady

theorem steady_transitionReport (s : State) : Steady s (transitionReport s) := by
  obtain ⟨hmgmt, hpins⟩ := transitionReport_mgmt_pins s
  exact .of_eq (by rw [hmgmt, hpins])

theorem steady_leaveRun (next : Mode) (s : State) : Steady s (leaveRun next s) := by
  rw [leaveRun_eq]
  refine Steady.trans ?_ (steady_transitionReport _)
  obtain ⟨hmgmt, hpins⟩ := giveUpStall_mgmt_pins (fun _ => true) s
  exact .of_eq (by simp [clearRun, hmgmt, hpins])

theorem steady_leaveRunToSafe (cause : SafeCause) (s : State) : Steady s (leaveRunToSafe cause s) :=
  (Steady.of_eq (s := s) (t := setSafeCause cause s) rfl).trans (steady_leaveRun .enteringSafe _)

theorem steady_actOnSafeLow (s : State) : Steady s (actOnSafeLow s) := by
  obtain ⟨hmgmt, hpins⟩ := actOnSafeLow_mgmt_pins s
  exact .of_eq (by rw [hmgmt, hpins])

theorem steady_completeConfig (s : State) : Steady s (completeConfig s) := .of_eq (by simp [completeConfig])

theorem steady_completeRun (s : State) : Steady s (completeRun s) := .of_eq (by simp [completeRun])

theorem steady_beginRun (s : State) : Steady s (beginRun s) := by
  refine Steady.trans ?_ (steady_transitionReport _)
  exact .of_eq (by simp)

theorem steady_detach (c : Chan) (s : State) : Steady s (detach c s) := by
  rw [detach_frame]
  exact .of_eq rfl

theorem steady_acceptSetChannel (c : Chan) (d : Descriptor) (s : State) : Steady s (acceptSetChannel c d s) :=
  (steady_detach c s).trans ⟨rfl, Iff.rfl⟩

/-- The response of a held-back SET_CHANNEL keeps its transaction in PENDING. -/
theorem steady_acceptHeld (s : State) : Steady s (acceptHeld s) := by
  unfold acceptHeld
  split
  · exact .refl s
  · rename_i q _
    split
    · exact .refl s
    · have haccepted := steady_acceptSetChannel q.channel q.descriptor s
      dsimp only
      split
      · rename_i hphase
        exact ⟨haccepted.pins, by simp [respond, hphase]⟩
      · exact haccepted

theorem steady_reportHeartbeat (s : State) : Steady s (reportHeartbeat s) := by
  unfold reportHeartbeat
  split
  · exact .of_eq rfl
  · exact .refl s

theorem steady_endPass (s : State) : Steady s (endPass s) := (steady_acceptHeld s).arbitrate

theorem steady_endDrive (c : Chan) (s : State) : Steady s (endDrive c s) :=
  ((calm_updateMark c s).steady.trans (steady_transitionReport _)).arbitrate

/-! ### Commands that act as events alone -/

/-- Nothing, or an event of a part that takes events, which leaves the pins and the transaction alone. -/
def Taken (s t : State) : Prop := t = s ∨ s.live = true ∧ Steady s t

theorem taken_onEvent {s t : State} {b : Bool} (h : Steady s t) : Taken s (s.onEvent b t) := by
  unfold State.onEvent
  split
  · rename_i htaken
    exact .inr ⟨Bool.and_elim_left htaken, h⟩
  · exact .inl rfl

theorem taken_onHold {s : State} {c : Chan} {p : Channel → Bool} {body : Descriptor → State → State}
    (h : Steady s (onHold c p body s)) : Taken s (onHold c p body s) := by
  rcases onHold_cases c p body s with e | ⟨d, -, hlive, -⟩
  · exact .inl e
  · exact .inr ⟨hlive, h⟩

theorem taken_onTrain {s : State} {c : Chan} {p : Channel → Bool} {body : Descriptor → TrainPart → State → State}
    (h : Steady s (onTrain c p body s)) : Taken s (onTrain c p body s) := by
  rcases onTrain_cases c p body s with e | ⟨d, q, -, hlive, -⟩
  · exact .inl e
  · exact .inr ⟨hlive, h⟩

/-- Toward RUN the part was before, or SAFE# allows it. -/
theorem Outcome.towardRun {i : Instr} {s t : State} (h : Outcome i s t) (ht : TowardRun t.ctl.mode) :
    TowardRun s.ctl.mode ∨ s.pins.safeHigh = true := by
  cases h with
  | ordinary h => exact .inl (h.2 ht)
  | started _ hsafe _ => exact .inr hsafe
  | restarted h =>
    rw [h.ctl] at ht
    rcases ht with ht | ht <;> cases ht
  | stored _ _ _ _ _ hctl =>
    rw [hctl] at ht
    exact .inl ht
  | read _ hctl =>
    rw [hctl] at ht
    exact .inl ht

theorem Inputs.of_live {s t : State} (h : Inputs s) (hlive : s.live = true) (hsteady : Steady s t)
    (hrun : TowardRun t.ctl.mode → TowardRun s.ctl.mode ∨ s.pins.safeHigh = true) : Inputs t := by
  obtain ⟨hpins, hphase⟩ := hsteady
  refine ⟨fun _ htoward => ?_, fun hheld => ?_, fun hclk => ?_⟩
  · rw [hpins]
    exact (hrun htoward).elim (h.safe hlive) id
  · rw [State.heldInReset, hpins] at hheld
    exact absurd hheld (by rw [← State.heldInReset, (live_iff.mp hlive).2]; exact Bool.false_ne_true)
  · rw [hpins] at hclk ⊢
    obtain ⟨hselect, hstrobes⟩ := h.input hclk
    exact ⟨hselect.trans (not_congr hphase.symm), hstrobes⟩

theorem Inputs.of_taken {s t : State} (h : Inputs s) (htaken : Taken s t)
    (hrun : TowardRun t.ctl.mode → TowardRun s.ctl.mode ∨ s.pins.safeHigh = true) : Inputs t := by
  rcases htaken with rfl | ⟨hlive, hsteady⟩
  · exact h
  · exact h.of_live hlive hsteady hrun

/-! ### Requests (R176) -/

/-- The answer of an owning rule: the transaction in PENDING, and the pins as they were. -/
def Replied (s t : State) : Prop := t.pins = s.pins ∧ t.mgmt.phase = .pending

theorem replied_respond {s t : State} {r : Status} {p : List Byte} (h : Steady s t) : Replied s (respond r p t) :=
  ⟨h.pins, rfl⟩

theorem replied_refused {s : State} {r : Status} {p : List Byte} : Replied s (respond r p s) :=
  replied_respond (.refl s)

theorem Replied.ite {p : Prop} [Decidable p] {s t u : State} (ht : Replied s t) (hu : Replied s u) :
    Replied s (if p then t else u) := by
  split
  · exact ht
  · exact hu

theorem Replied.withChannel {s : State} {p : List Byte} {f : Chan → State} (h : ∀ c, Replied s (f c)) :
    Replied s (withChannel p s f) := by
  rcases withChannel_cases p s f with e | ⟨c, -, e⟩ <;> rw [e]
  · exact replied_refused
  · exact h c

theorem taken_takeRequest {s t : State} {n : Nat} {a : Acceptance} {p : List Byte} (h : Replied s t) :
    Taken s (takeRequest n a p s t) := by
  have hanswered {u : State} (hphase : s.mgmt.phase = .request) (hu : Replied s u) : Steady s u :=
    ⟨hu.1, by rw [hu.2, hphase]; exact iff_of_false nofun nofun⟩
  unfold Machine.takeRequest State.onEvent
  split
  · rename_i hlistens
    simp only [Bool.and_eq_true, beq_iff_eq] at hlistens
    obtain ⟨hlive, hphase⟩ := hlistens
    refine .inr ⟨hlive, hanswered hphase ?_⟩
    exact .ite replied_refused (.ite h replied_refused)
  · exact .inl rfl

theorem replied_takeSetChannel (c : Chan) (d : Descriptor) (s : State) : Replied s (takeSetChannel c d s) :=
  .ite ⟨rfl, rfl⟩ (replied_respond (steady_acceptSetChannel c d s).arbitrate)

theorem replied_queueWriteExamined (c : Chan) (d : Descriptor) (v : Byte) (s : State) :
    Replied s (queueWriteExamined c d v s) := by
  have hexamined := (local_examine c d v .mgmt s).toCalm
  unfold queueWriteExamined
  split
  all_goals
    rename_i t h
    rw [h] at hexamined
  · exact replied_respond (hexamined.trans (calm_recordChannel _ c v t)).steady
  · exact replied_respond hexamined.steady
  · exact replied_respond (hexamined.trans (local_reexamine c t).toCalm).steady.arbitrate
  · exact replied_respond hexamined.steady
  · exact replied_respond hexamined.steady

/-- A management command is taken as its answer, or not at all. -/
theorem taken_request {i : Instr} {row : RequestRow} (h : requestRow i = some row) (s : State) :
    ∃ t, exec i s = .next t ∧ Taken s t := by
  cases i with
  | getInfo | getStatus | readFlags =>
    exact ⟨_, rfl, taken_takeRequest ⟨rfl, rfl⟩⟩
  | resetDevice => exact ⟨_, rfl, taken_takeRequest ⟨rfl, rfl⟩⟩
  | getChannel => exact ⟨_, rfl, taken_takeRequest (.withChannel fun _ => replied_refused)⟩
  | readEvents | setEnables => exact ⟨_, rfl, taken_takeRequest (.ite replied_refused ⟨rfl, rfl⟩)⟩
  | start | resume =>
    exact ⟨_, rfl, taken_takeRequest (.ite (replied_respond (steady_beginRun s).arbitrate) replied_refused)⟩
  | stop =>
    exact ⟨_, rfl, taken_takeRequest (.ite (replied_respond (steady_leaveRun _ s).arbitrate)
      (replied_respond (steady_completeConfig s)))⟩
  | enterSafe =>
    exact ⟨_, rfl, taken_takeRequest (.ite (replied_respond (steady_leaveRunToSafe .command s).arbitrate) replied_refused)⟩
  | setDevice =>
    refine ⟨_, rfl, taken_takeRequest ?_⟩
    split
    · exact replied_refused
    · exact .ite replied_refused ⟨rfl, rfl⟩
  | setChannel =>
    refine ⟨_, rfl, taken_takeRequest (.withChannel fun c => ?_)⟩
    dsimp only
    split
    · exact replied_refused
    · exact .ite replied_refused (replied_takeSetChannel _ _ s)
  | clearChannel =>
    refine ⟨_, rfl, taken_takeRequest (.withChannel fun c => ?_)⟩
    split
    · exact replied_refused
    · exact replied_respond ((steady_detach c s).trans (calm_modChan c _ _).steady)
  | clearFault =>
    refine ⟨_, rfl, taken_takeRequest (.withChannel fun c => ?_)⟩
    split
    · exact replied_refused
    · refine .ite replied_refused (.ite ?_ ?_)
      · exact replied_respond (local_clearFaultInRun c _ s).toCalm.steady.arbitrate
      · exact replied_respond (local_clearFaultInSafe c _ s).toCalm.steady
  | purge =>
    refine ⟨_, rfl, taken_takeRequest (.withChannel fun c => .ite replied_refused (replied_respond ?_))⟩
    have hpurged := (local_emptyQueue c s).trans
      (local_recordChannel c .queuePurged c (BitVec.ofNat 8 (s.chan c).queue.length) _)
    exact (hpurged.trans (local_reexamine c _)).toCalm.steady
  | queueWrite =>
    refine ⟨_, rfl, taken_takeRequest (.withChannel fun c => ?_)⟩
    dsimp only
    split
    · exact replied_respond (calm_recordChannel _ c _ s).steady
    · exact .ite (replied_respond (calm_recordChannel _ c _ s).steady) (replied_queueWriteExamined c _ _ s)
  | _ => cases h

end Sys2Proof.Machine
end

section
/-! The commands of the input levels themselves (R108, R124, R125, R143, R148, R157, R173, R178, R195), and O4: every
step keeps every law of the part. -/

namespace Sys2Proof.Machine

/-! ### MCS#, the host strobes and SAFE# taken (R148, R173, R195) -/

/-- MCS# has been taken at the level it shows. -/
def SelectTaken (s : State) : Prop := s.pins.mcsLow = true ↔ s.mgmt.phase ≠ .closed

/-- SAFE# has been taken at the level it shows: at a low level the part is not on its way to RUN. -/
def SafeTaken (s : State) : Prop := TowardRun s.ctl.mode → s.pins.safeHigh = true

/-- An operation that leaves the pins alone but for the strobes, which it takes at most, leaves the transaction alone,
and comes no nearer to RUN. -/
structure Settles (s t : State) : Prop where
  pins : t.pins = s.pins ∨ t.pins = { s.pins with strobes := none }
  mgmt : t.mgmt = s.mgmt
  away : Away s t

theorem Calm.settles {s t : State} (h : Calm s t) : Settles s t := ⟨.inl h.pins, h.mgmt, h.away⟩

theorem Settles.selectTaken {s t : State} (h : Settles s t) (hs : SelectTaken s) : SelectTaken t := by
  unfold SelectTaken
  rw [h.mgmt]
  rcases h.pins with hpins | hpins <;> rw [hpins] <;> exact hs

theorem Settles.safeTaken {s t : State} (h : Settles s t) (hs : SafeTaken s) : SafeTaken t := by
  intro ht
  have hhigh := hs (h.away ht)
  rcases h.pins with hpins | hpins <;> rw [hpins] <;> exact hhigh

theorem Settles.strobes {s t : State} (h : Settles s t) (hs : s.pins.strobes = none) : t.pins.strobes = none := by
  rcases h.pins with hpins | hpins <;> rw [hpins]
  exact hs

/-- Taking the strobes notes them as taken, and for the rest does what the arrival does. -/
theorem takeStrobes_frame {arrival : HostStrobes → State → State} (harrival : ∀ h u, Calm u (arrival h u)) (s : State) :
    (takeStrobes arrival s).pins = { s.pins with strobes := none } ∧ (takeStrobes arrival s).mgmt = s.mgmt ∧
      (takeStrobes arrival s).ctl = s.ctl := by
  have hreleased := calm_strobesReleased (strobesTaken s)
  rcases takeStrobes_cases arrival s with ⟨hnone, e⟩ | ⟨m, -, ⟨-, h, k, -, -, -, e⟩ | e | ⟨h, -, -, e⟩⟩ <;> rw [e]
  · exact ⟨by rw [← hnone], rfl, rfl⟩
  · exact ⟨rfl, rfl, rfl⟩
  · exact ⟨hreleased.pins, hreleased.mgmt, hreleased.ctl⟩
  · have harrived := hreleased.trans (harrival h _)
    exact ⟨harrived.pins, harrived.mgmt, harrived.ctl⟩

theorem settles_takeStrobes (s : State) : Settles s (takeStrobes arrives s) := by
  obtain ⟨hpins, hmgmt, hctl⟩ := takeStrobes_frame calm_arrives s
  exact ⟨.inr hpins, hmgmt, .of_ctl hctl⟩

theorem settles_takeSafeLine (s : State) : Settles s (takeSafeLine s) := by
  unfold takeSafeLine
  split
  · exact (Calm.refl s).settles
  · obtain ⟨hmgmt, hpins⟩ := actOnSafeLow_mgmt_pins s
    have hchoice := calm_arbitrate (actOnSafeLow s)
    exact ⟨.inl (hchoice.pins.trans hpins), hchoice.mgmt.trans hmgmt, (away_actOnSafeLow s).trans hchoice.away⟩

theorem settles_takeSense (s : State) : Settles s (takeSense s) :=
  (Calm.foldl (fun c t => (local_actOnSense c t).toCalm) allChans s).settles

/-- The fall of SAFE# takes the part out of RUN and off its way there. -/
theorem actOnSafeLow_not_towardRun (s : State) : ¬ TowardRun (actOnSafeLow s).ctl.mode := by
  intro htoward
  unfold actOnSafeLow at htoward
  split at htoward
  · rw [leaveRunToSafe, leaveRun_eq] at htoward
    rcases away_transitionReport _ htoward with hm | hm <;> simp [clearRun] at hm
  · rcases away_transitionReport _ htoward with hm | hm <;> simp at hm
  all_goals
    rename_i hmode
    rw [hmode] at htoward
    rcases htoward with hm | hm <;> cases hm

theorem safeTaken_takeSafeLine (s : State) : SafeTaken (takeSafeLine s) := by
  intro htoward
  unfold takeSafeLine at htoward ⊢
  split
  · assumption
  · rename_i hlow
    rw [if_neg hlow, (calm_arbitrate _).ctl] at htoward
    exact absurd htoward (actOnSafeLow_not_towardRun s)

theorem selectTaken_openTransaction {s : State} (hlow : s.pins.mcsLow = true) : SelectTaken (openTransaction s) := by
  refine iff_of_true hlow ?_
  unfold openTransaction
  dsimp only
  split <;> nofun

theorem selectTaken_resetPart (s : State) : SelectTaken (resetPart s) := by
  unfold SelectTaken resetPart
  cases s.pins.mcsLow <;> simp

theorem selectTaken_closeTransaction {s : State} (hhigh : s.pins.mcsLow = false) :
    SelectTaken (closeTransaction s) := by
  unfold closeTransaction
  split
  · exact selectTaken_resetPart s
  · exact iff_of_false (by simp [hhigh]) (by simp)

theorem selectTaken_takeSelect (s : State) : SelectTaken (takeSelect s) := by
  unfold takeSelect
  split
  · rename_i hfall
    exact selectTaken_openTransaction (Bool.and_elim_left hfall)
  · split
    · rename_i hrise
      exact selectTaken_closeTransaction (by simpa using Bool.and_elim_left hrise)
    · rename_i hfall hrise
      unfold SelectTaken
      cases hlow : s.pins.mcsLow <;> simp_all

theorem away_closeTransaction (s : State) : Away s (closeTransaction s) := by
  unfold closeTransaction
  split
  · exact .of_mode (m := .config) rfl
  · exact id

theorem away_takeSelect (s : State) : Away s (takeSelect s) := by
  unfold takeSelect
  split
  · exact id
  · split
    · exact away_closeTransaction s
    · exact id

theorem SafeTaken.takeSelect {s : State} (h : SafeTaken s) : SafeTaken (takeSelect s) := by
  intro htoward
  rw [takeSelect_pins]
  exact h (away_takeSelect s htoward)

/-- Every input level has been taken. -/
structure AllTaken (s : State) : Prop where
  select : SelectTaken s
  strobes : s.pins.strobes = none
  safe : SafeTaken s

theorem strobes_takeSelect {s : State} (h : s.pins.strobes = none) : (takeSelect s).pins.strobes = none := by
  rwa [takeSelect_pins]

theorem strobes_takeStrobes (s : State) : (takeStrobes arrives s).pins.strobes = none := by
  rw [(takeStrobes_frame calm_arrives s).1]

/-- Each of the three inputs is taken, and what one has taken the next two keep. -/
theorem allTaken_takePins (order : Fin 6) (s : State) : AllTaken (takePins order s) := by
  unfold takePins
  split
  · exact ⟨(settles_takeSafeLine _).selectTaken ((settles_takeStrobes _).selectTaken (selectTaken_takeSelect s)),
      (settles_takeSafeLine _).strobes (strobes_takeStrobes _), safeTaken_takeSafeLine _⟩
  · exact ⟨(settles_takeStrobes _).selectTaken ((settles_takeSafeLine _).selectTaken (selectTaken_takeSelect s)),
      strobes_takeStrobes _, (settles_takeStrobes _).safeTaken (safeTaken_takeSafeLine _)⟩
  · exact ⟨(settles_takeSafeLine _).selectTaken (selectTaken_takeSelect _),
      (settles_takeSafeLine _).strobes (strobes_takeSelect (strobes_takeStrobes s)), safeTaken_takeSafeLine _⟩
  · exact ⟨selectTaken_takeSelect _,
      strobes_takeSelect ((settles_takeSafeLine _).strobes (strobes_takeStrobes s)), (safeTaken_takeSafeLine _).takeSelect⟩
  · exact ⟨(settles_takeStrobes _).selectTaken (selectTaken_takeSelect _), strobes_takeStrobes _,
      (settles_takeStrobes _).safeTaken (safeTaken_takeSafeLine s).takeSelect⟩
  · exact ⟨selectTaken_takeSelect _, strobes_takeSelect (strobes_takeStrobes _),
      ((settles_takeStrobes _).safeTaken (safeTaken_takeSafeLine s)).takeSelect⟩

theorem AllTaken.takeSense {s : State} (h : AllTaken s) : AllTaken (takeSense s) :=
  ⟨(settles_takeSense s).selectTaken h.select, (settles_takeSense s).strobes h.strobes,
    (settles_takeSense s).safeTaken h.safe⟩

/-- No input but RESET# and the supply ends or begins a hold. -/
theorem Settles.heldInReset {s t : State} (h : Settles s t) : t.heldInReset = s.heldInReset := by
  unfold State.heldInReset
  rcases h.pins with hpins | hpins <;> rw [hpins]

theorem takeSelect_heldInReset (s : State) : (takeSelect s).heldInReset = s.heldInReset := by
  rw [State.heldInReset, takeSelect_pins, State.heldInReset]

theorem takePins_heldInReset (order : Fin 6) (s : State) : (takePins order s).heldInReset = s.heldInReset := by
  unfold takePins
  split <;> simp only [(settles_takeSafeLine _).heldInReset, (settles_takeStrobes _).heldInReset, takeSelect_heldInReset]

theorem AllTaken.inputs {s : State} (h : AllTaken s) (hheld : s.heldInReset = false) : Inputs s where
  safe _ := h.safe
  reset hreset := by
    rw [hheld] at hreset
    cases hreset
  input _ := ⟨h.select, h.strobes⟩

/-! ### A part in its reset state (R125, R157, R180) -/

theorem strobesReleased_blank {s : State} (h : Blank s) : Blank (strobesReleased s) := by
  have hcalm := calm_strobesReleased s
  rw [strobesReleased_frame]
  refine h.of_blocks (t := { s with port := (strobesReleased s).port }) rfl (.inl ?_)
  unfold strobesReleased
  rcases h.port with hs | hs <;> rw [hs]
  · exact hs
  · rfl

theorem arrivesInReset_blank {s : State} (h : Blank s) (m : HostStrobes) : Blank (arrivesInReset m s) := by
  rw [arrivesInReset_eq]
  exact h.of_blocks rfl (.inr rfl)

theorem takeStrobes_blank {s : State} (h : Blank s) : Blank (takeStrobes arrivesInReset s) := by
  have htaken : Blank (strobesTaken s) := h.of_blocks rfl h.port
  rcases takeStrobes_cases arrivesInReset s with ⟨-, e⟩ | ⟨m, -, ⟨-, w, k, -, -, -, e⟩ | e | ⟨w, -, -, e⟩⟩ <;> rw [e]
  · exact h
  · exact htaken
  · exact strobesReleased_blank htaken
  · exact arrivesInReset_blank (strobesReleased_blank htaken) w

/-- The management port of a part held in reset, at the level of MCS# (R173, R180). -/
def selectInReset (s : State) : State :=
  { s with mgmt := { s.mgmt with phase := if s.pins.mcsLow then .discarding else .closed } }

theorem selectInReset_blank {s : State} (h : Blank s) : Blank (selectInReset s) := by
  refine ⟨h.channels, h.groups, h.down, h.ctl, h.ev, h.pendingSet, h.resetArmed, h.response, ?_, h.port⟩
  unfold selectInReset
  cases s.pins.mcsLow
  · exact .inl rfl
  · exact .inr rfl

theorem selectInReset_taken (s : State) : SelectTaken (selectInReset s) := by
  unfold SelectTaken selectInReset
  cases s.pins.mcsLow <;> simp

theorem takeInputsInReset_eq (s : State) : takeInputsInReset s = takeStrobes arrivesInReset (selectInReset s) := rfl

/-- The end of a hold, and CLK running again in one, take MCS# and the strobes at the levels they show. -/
theorem takeInputsInReset_inputs {s : State} (h : Blank s) : Inputs (takeInputsInReset s) := by
  rw [takeInputsInReset_eq]
  have hblank : Blank (takeStrobes arrivesInReset (selectInReset s)) := takeStrobes_blank (selectInReset_blank h)
  obtain ⟨hpins, hmgmt, -⟩ := takeStrobes_frame calm_arrivesInReset (selectInReset s)
  refine hblank.inputs fun _ => ?_
  rw [hpins, hmgmt]
  exact ⟨selectInReset_taken s, rfl⟩

theorem resetPart_inputs {s : State} (h : s.pins.clkRunning = true → s.pins.strobes = none) : Inputs (resetPart s) :=
  (resetPart_blank s).inputs fun hclk => ⟨selectTaken_resetPart s, h hclk⟩

theorem endHold_inputs {s t : State} (h : Inputs s)
    (hsame : (t.channels, t.groups, t.down, t.ctl, t.ev, t.mgmt, t.port) =
      (s.channels, s.groups, s.down, s.ctl, s.ev, s.mgmt, s.port))
    (hheld : t.heldInReset = true → s.heldInReset = true)
    (hpins : (t.pins.safeHigh, t.pins.clkRunning, t.pins.mcsLow, t.pins.strobes) =
      (s.pins.safeHigh, s.pins.clkRunning, s.pins.mcsLow, s.pins.strobes)) : Inputs (endHold s t) := by
  simp only [Prod.mk.injEq] at hsame hpins
  obtain ⟨hchannels, hgroups, hdown, hctl, hev, hmgmt, hport⟩ := hsame
  obtain ⟨hsafe, hclk, hlow, hstrobes⟩ := hpins
  have hblank (hreset : s.heldInReset = true) : Blank t := by
    have hblank := h.reset hreset
    exact hblank.of_blocks (by rw [hchannels, hgroups, hdown, hctl, hev, hmgmt]) (by rw [hport]; exact hblank.port)
  unfold endHold
  split
  · rename_i hended
    exact takeInputsInReset_inputs (hblank (Bool.and_elim_left hended))
  · rename_i hstays
    refine ⟨fun hlive htoward => ?_, hblank ∘ hheld, fun hrun => ?_⟩
    · rw [live_iff, hclk] at hlive
      obtain ⟨hrun, hfree⟩ := hlive
      have hfree' : s.heldInReset = false := by simpa [hfree] using hstays
      rw [hctl] at htoward
      rw [hsafe]
      exact h.safe (live_iff.mpr ⟨hrun, hfree'⟩) htoward
    · rw [hclk] at hrun
      rw [hlow, hstrobes, hmgmt]
      exact h.input hrun

/-! ### The rows of the input levels -/

theorem transactionOpen_inputs {s : State} (h : Inputs s) : ∃ t, exec .transactionOpen s = .next t ∧ Inputs t := by
  refine ⟨_, rfl, ?_⟩
  split
  · exact h
  · split
    · rename_i hclk
      obtain ⟨-, hstrobes⟩ := h.input hclk
      refine ⟨h.safe, fun hreset => ?_, fun _ => ⟨selectTaken_openTransaction rfl, hstrobes⟩⟩
      have hblank := h.reset hreset
      refine ⟨hblank.channels, hblank.groups, hblank.down, hblank.ctl, hblank.ev, hblank.pendingSet, hblank.resetArmed,
        rfl, .inr ?_, hblank.port⟩
      have hheld : (setSelect true s).heldInReset = true := hreset
      simp [openTransaction, hheld]
    · rename_i hclk
      exact h.of_stopped (Bool.eq_false_iff.mpr hclk) rfl rfl

theorem transactionClose_inputs {s : State} (h : Inputs s) : ∃ t, exec .transactionClose s = .next t ∧ Inputs t := by
  refine ⟨_, rfl, ?_⟩
  split
  · exact h
  · split
    · rename_i hclk
      obtain ⟨-, hstrobes⟩ := h.input hclk
      have htaken := selectTaken_closeTransaction (s := setSelect false s) rfl
      unfold closeTransaction at htaken ⊢
      split
      · exact resetPart_inputs fun _ => hstrobes
      · rename_i harmed
        rw [if_neg harmed] at htaken
        refine ⟨h.safe, fun hreset => ?_, fun _ => ⟨htaken, hstrobes⟩⟩
        have hblank := h.reset hreset
        exact ⟨hblank.channels, hblank.groups, hblank.down, hblank.ctl, hblank.ev, hblank.pendingSet, hblank.resetArmed,
          rfl, .inl rfl, hblank.port⟩
    · rename_i hclk
      exact h.of_stopped (Bool.eq_false_iff.mpr hclk) rfl rfl

/-- An arrival at a part that takes events, or strobes shown while CLK is stopped. -/
theorem onArrival_inputs {s t : State} {b : Bool} {m : HostStrobes} (h : Inputs s)
    (ht : b = true → s.pins.clkRunning = true → Inputs t) : Inputs (s.onArrival b m t) := by
  cases hclk : s.pins.clkRunning with
  | false =>
    rw [onArrival_stopped hclk]
    split
    · exact h.of_stopped hclk rfl rfl
    · exact h
  | true =>
    unfold State.onArrival
    split
    · exact h
    · rename_i hb
      split
      · exact ht (by simpa using hb) hclk
      · exact h

theorem Calm.inputs {s t : State} (hcalm : Calm s t) (h : Inputs s) (hclk : s.pins.clkRunning = true)
    (hheld : s.heldInReset = false) : Inputs t :=
  h.of_live (live_iff.mpr ⟨hclk, hheld⟩) hcalm.steady fun htoward => .inl (hcalm.away htoward)

/-- The arrivals of a part that no reset holds. -/
theorem calm_onArrival_inputs {s t : State} {b : Bool} {m : HostStrobes} (h : Inputs s)
    (hb : b = true → s.heldInReset = false) (hcalm : Calm s t) : Inputs (s.onArrival b m t) :=
  onArrival_inputs h fun htrue hclk => hcalm.inputs h hclk (hb htrue)

theorem hostCycleInReset_inputs {s : State} (h : Inputs s) (m : HostStrobes) :
    Inputs (s.onArrival s.heldInReset m (arrivesInReset m s)) := by
  refine onArrival_inputs h fun hheld hclk => (arrivesInReset_blank (h.reset hheld) m).inputs fun _ => ?_
  have hcalm := calm_arrivesInReset m s
  rw [hcalm.pins, hcalm.mgmt]
  exact h.input hclk

theorem hostCycleEnd_inputs {s : State} (h : Inputs s) : ∃ t, exec .hostCycleEnd s = .next t ∧ Inputs t := by
  refine ⟨_, rfl, ?_⟩
  split
  · rename_i hclk
    have hcalm := calm_strobesReleased s
    cases hheld : s.heldInReset with
    | false => exact hcalm.inputs h hclk hheld
    | true =>
      refine (strobesReleased_blank (h.reset hheld)).inputs fun _ => ?_
      rw [hcalm.pins, hcalm.mgmt]
      exact h.input hclk
  · rename_i hclk
    split
    · exact h.of_stopped (Bool.eq_false_iff.mpr hclk) rfl rfl
    · exact h

theorem senseChange_inputs {s : State} (h : Inputs s) (c : Chan) (high : Bool) :
    ∃ t, exec (.senseChange c high) s = .next t ∧ Inputs t := by
  refine ⟨_, rfl, ?_⟩
  have hpin : Inputs { s with pins := { s.pins with sense := s.pins.sense.set c.val high } } :=
    ⟨h.safe, fun hreset => (h.reset hreset).of_blocks rfl (h.reset hreset).port, h.input⟩
  split
  · rename_i htaken
    have hlive : s.live = true := by simp_all
    obtain ⟨hclk, hheld⟩ := live_iff.mp hlive
    exact (local_actOnSense c _).toCalm.inputs hpin hclk hheld
  · exact hpin

theorem safeLineFall_inputs {s : State} (h : Inputs s) : ∃ t, exec .safeLineFall s = .next t ∧ Inputs t := by
  refine ⟨_, rfl, ?_⟩
  split
  · rename_i htaken
    have hlive : s.live = true := Bool.and_elim_left htaken
    have hsteady := (steady_actOnSafeLow (setSafePin false s)).arbitrate
    have hmode := (calm_arbitrate (actOnSafeLow (setSafePin false s))).ctl
    refine ⟨fun _ htoward => ?_, fun hheld => ?_, fun hclk => ?_⟩
    · rw [hmode] at htoward
      exact absurd htoward (actOnSafeLow_not_towardRun _)
    · rw [State.heldInReset, hsteady.pins] at hheld
      have hfree : (setSafePin false s).heldInReset = false := (live_iff.mp hlive).2
      exact absurd hheld (Bool.eq_false_iff.mp hfree)
    · rw [hsteady.pins] at hclk ⊢
      obtain ⟨hselect, hstrobes⟩ := h.input hclk
      exact ⟨hselect.trans (not_congr hsteady.phase.symm), hstrobes⟩
  · rename_i hnot
    refine ⟨fun hlive htoward => ?_, fun hreset => (h.reset hreset).of_blocks rfl (h.reset hreset).port, h.input⟩
    have hhigh := h.safe hlive htoward
    have hlive' : s.live = true := hlive
    rw [hlive', hhigh] at hnot
    exact absurd rfl hnot

theorem clkRunsAgain_inputs {s : State} (h : Inputs s) : ∃ t, exec .clkRunsAgain s = .next t ∧ Inputs t := by
  refine ⟨_, rfl, ?_⟩
  split
  · exact h
  · unfold takeInputs
    split
    · rename_i hheld
      exact takeInputsInReset_inputs ((h.reset hheld).of_blocks rfl (h.reset hheld).port)
    · rename_i hfree
      have htaken := (allTaken_takePins (Config.inputOrder s.ctl.timestamp) (setClock true s)).takeSense
      refine htaken.inputs ?_
      rw [(settles_takeSense _).heldInReset, takePins_heldInReset]
      exact Bool.eq_false_iff.mpr hfree

end Sys2Proof.Machine
end

section
/-! O4: every step keeps every law of the part. -/

namespace Sys2Proof.Machine

/-! ### The input levels after every command -/

/-- A command that acts as an event alone keeps what the part has taken. -/
theorem Inputs.exec {i : Instr} {s : State} (h : Inputs s) (hi : ∃ t, exec i s = .next t ∧ Taken s t) :
    ∃ t, Machine.exec i s = .next t ∧ Inputs t := by
  obtain ⟨t, ht, htaken⟩ := hi
  exact ⟨t, ht, h.of_taken htaken (exec_next ht).towardRun⟩

theorem taken_badCommand (frame : List Byte) (s : State) : ∃ t, exec (.badCommand frame) s = .next t ∧ Taken s t := by
  refine ⟨_, rfl, ?_⟩
  split
  · exact .inl rfl
  · split
    · exact .inl rfl
    · unfold State.onEvent
      split
      · rename_i htaken
        simp only [Bool.and_eq_true, beq_iff_eq] at htaken
        exact .inr ⟨htaken.1, rfl, by rw [htaken.2]; exact iff_of_false nofun nofun⟩
      · exact .inl rfl

theorem taken_passThroughCompletion (dd : Byte) (s : State) :
    ∃ t, exec (.passThroughCompletion dd) s = .next t ∧ Taken s t := by
  refine ⟨_, rfl, ?_⟩
  split
  · exact .inl rfl
  · refine taken_onEvent (Steady.trans ?_ (steady_endPass _))
    have hanswered (answer : Option Byte) : Steady s (answerHost .normal answer (freeBus s)) :=
      ((calm_freeBus s).trans (calm_answerHost .normal answer _)).steady
    split
    · exact (hanswered _).trans (steady_reportHeartbeat _)
    · exact hanswered _

theorem taken_passTimeout (s : State) : ∃ t, exec .passTimeout s = .next t ∧ Taken s t := by
  refine ⟨_, rfl, ?_⟩
  split
  · exact .inl rfl
  · refine taken_onEvent (Steady.trans ?_ (steady_endPass _))
    exact (((calm_freeBus s).trans (calm_answerHost _ _ _)).trans (calm_record _ _ _ _ _ _)).steady

theorem taken_driveCompletion (s : State) : ∃ t, exec .driveCompletion s = .next t ∧ Taken s t := by
  refine ⟨_, rfl, ?_⟩
  split
  · refine taken_onEvent (Steady.trans ?_ (steady_endDrive _ _))
    split
    · exact ((calm_freeBus s).trans (local_creditCompletion _ _).toCalm).steady
    · exact (calm_freeBus s).steady
  · exact .inl rfl
  · exact .inl rfl

theorem taken_driveTimeout (s : State) : ∃ t, exec .driveTimeout s = .next t ∧ Taken s t := by
  refine ⟨_, rfl, ?_⟩
  split
  · rename_i f _
    have hfreed := (calm_freeBus s).trans (calm_recordChannel .driveTimeout f.channel f.value _)
    refine taken_onEvent (Steady.trans ?_ (steady_endDrive _ _))
    split
    · exact (hfreed.trans (local_chargeTimeout f _).toCalm).steady
    · exact hfreed.steady
  · exact .inl rfl
  · exact .inl rfl

theorem taken_stallTimeout (s : State) : ∃ t, exec .stallTimeout s = .next t ∧ Taken s t := by
  refine ⟨_, rfl, ?_⟩
  split
  · exact .inl rfl
  · exact taken_onEvent ((calm_recordChannel _ _ _ s).trans (calm_answerHost _ _ _)).steady

theorem taken_stallReexamine (s : State) : ∃ t, exec .stallReexamine s = .next t ∧ Taken s t := by
  refine ⟨_, rfl, ?_⟩
  split
  · exact .inl rfl
  · exact taken_onEvent (local_reexamine _ s).toCalm.steady.arbitrate

theorem steady_heartbeatExpires (s : State) : Steady s (heartbeatExpires s) := by
  unfold heartbeatExpires State.onEvent
  split
  · exact ((calm_record .heartbeatLost none none none none s).steady.trans (steady_leaveRunToSafe .heartbeat _)).arbitrate
  · exact .refl s

theorem steady_tick (s : State) : Steady s (advanceTime (takeAppended (takeDue s))) := by
  have hdue : Steady s (takeDue s) :=
    (Calm.foldl calm_takeDueOf allChans s).steady.trans (steady_heartbeatExpires _)
  have hheads : Steady (takeDue s) (takeAppended (takeDue s)) := (Calm.foldl calm_takeAppendedOf allChans _).steady
  refine (hdue.trans hheads).trans (.of_eq ?_)
  rw [advanceTime_pins, advanceTime_mgmt]

theorem taken_heartbeatExpiry (s : State) : Taken s (heartbeatExpires s) :=
  taken_onEvent
    ((calm_record .heartbeatLost none none none none s).steady.trans (steady_leaveRunToSafe .heartbeat _)).arbitrate

theorem taken_filterExpires (c : Chan) (s : State) : Taken s (filterExpires c s) :=
  taken_onEvent ((local_confirmMismatch c s).toCalm.trans (calm_arbitrate _)).steady

theorem taken_settleExpires (c : Chan) (s : State) : Taken s (settleExpires c s) :=
  taken_onEvent (calm_modComparison c _ s).steady

/-- The two events of the response on MSO move an open transaction on (R177). -/
theorem taken_phase {s : State} {b : Bool} {p : Phase} (hp : p ≠ .closed)
    (hb : b = true → s.mgmt.phase ≠ .closed) :
    Taken s (s.onEvent b { s with mgmt := { s.mgmt with phase := p } }) := by
  unfold State.onEvent
  split
  · rename_i htaken
    simp only [Bool.and_eq_true] at htaken
    exact .inr ⟨htaken.1, rfl, iff_of_false hp (hb htaken.2)⟩
  · exact .inl rfl

/-- The input levels taken stand after every command. -/
theorem exec_inputs (i : Instr) {s : State} (h : Inputs s) : ∃ t, exec i s = .next t ∧ Inputs t := by
  cases i with
  | getInfo | getStatus | setDevice | setChannel | clearChannel | getChannel | start | stop | enterSafe | resume
  | clearFault | purge | queueWrite | readEvents | readFlags | setEnables | resetDevice =>
    exact h.exec (taken_request rfl s)
  | badCommand frame => exact h.exec (taken_badCommand frame s)
  | transactionOpen => exact transactionOpen_inputs h
  | transactionClose => exact transactionClose_inputs h
  | heldSetChannelAccept => exact h.exec ⟨_, rfl, taken_onEvent (steady_acceptHeld s).arbitrate⟩
  | governedRead a =>
    refine ⟨_, rfl, ?_⟩
    split
    · exact h
    · exact calm_onArrival_inputs h (by simp) (calm_governedReadArrives a _ s)
  | governedWrite a v =>
    refine ⟨_, rfl, ?_⟩
    split
    · exact h
    · exact calm_onArrival_inputs h (by simp) (calm_governedWriteArrives a v _ s)
  | passThroughArrival a data =>
    exact ⟨_, rfl, calm_onArrival_inputs h (fun hb => by simp_all) (calm_passArrives a data s)⟩
  | invalidCycle a => exact ⟨_, rfl, calm_onArrival_inputs h (by simp) (calm_invalidArrives a s)⟩
  | hostCycleInReset kind a v => exact ⟨_, rfl, hostCycleInReset_inputs h (strobesOf kind a v)⟩
  | hostCycleEnd => exact hostCycleEnd_inputs h
  | passThroughIssue | driveIssue => exact h.exec ⟨_, rfl, taken_onEvent (calm_arbitrate s).steady⟩
  | passThroughCompletion dd => exact h.exec (taken_passThroughCompletion dd s)
  | passTimeout => exact h.exec (taken_passTimeout s)
  | driveCompletion => exact h.exec (taken_driveCompletion s)
  | driveTimeout => exact h.exec (taken_driveTimeout s)
  | stallTimeout => exact h.exec (taken_stallTimeout s)
  | stallReexamine => exact h.exec (taken_stallReexamine s)
  | holdHeadTake c => exact h.exec ⟨_, rfl, taken_onHold (calm_holdHeadTakes c s).steady⟩
  | minHoldExpiry c => exact h.exec ⟨_, rfl, taken_onHold (calm_minHoldExpires c s).steady⟩
  | maxHoldExpiry c => exact h.exec ⟨_, rfl, taken_onHold (calm_maxHoldExpires c s).steady⟩
  | holdRecoveryEnd c => exact h.exec ⟨_, rfl, taken_onHold (calm_holdRecoveryEnds c s).steady⟩
  | trainHeadTake c => exact h.exec ⟨_, rfl, taken_onTrain (calm_trainHeadTakes c s).steady⟩
  | markExpiry c => exact h.exec ⟨_, rfl, taken_onTrain (calm_markExpires c s).steady⟩
  | spaceExpiry c => exact h.exec ⟨_, rfl, taken_onTrain (calm_spaceExpires c s).steady⟩
  | pauseExpiry c => exact h.exec ⟨_, rfl, taken_onTrain (calm_pauseExpires c s).steady⟩
  | trainRecoveryEnd c => exact h.exec ⟨_, rfl, taken_onTrain (calm_trainRecoveryEnds c s).steady⟩
  | grant g => exact h.exec ⟨_, rfl, taken_onEvent (local_passToken 0 g s).toCalm.steady.arbitrate⟩
  | settleExpiry c => exact h.exec ⟨_, rfl, taken_settleExpires c s⟩
  | filterExpiry c => exact h.exec ⟨_, rfl, taken_filterExpires c s⟩
  | senseChange c high => exact senseChange_inputs h c high
  | heartbeatExpiry => exact h.exec ⟨_, rfl, taken_heartbeatExpiry s⟩
  | safeLineFall => exact safeLineFall_inputs h
  | safeLineRise =>
    exact ⟨_, rfl, fun _ _ => rfl, fun hreset => (h.reset hreset).of_blocks rfl (h.reset hreset).port, h.input⟩
  | clkStops => exact ⟨_, rfl, h.of_stopped rfl rfl rfl⟩
  | resetAssert =>
    refine ⟨_, rfl, ?_⟩
    split
    · exact h
    · exact resetPart_inputs fun hclk => (h.input hclk).2
  | supplyFall =>
    refine ⟨_, rfl, ?_⟩
    split
    · exact resetPart_inputs fun hclk => (h.input hclk).2
    · exact h
  | resetRelease => exact ⟨_, rfl, endHold_inputs h rfl (fun hheld => by simp_all [State.heldInReset]) rfl⟩
  | supplyWithinRange => exact ⟨_, rfl, endHold_inputs h rfl (fun hheld => by simp_all [State.heldInReset]) rfl⟩
  | enteringRunComplete => exact h.exec ⟨_, rfl, taken_onEvent (steady_completeRun s)⟩
  | enteringSafeComplete => exact h.exec ⟨_, rfl, taken_onEvent (.of_eq rfl)⟩
  | enteringConfigComplete => exact h.exec ⟨_, rfl, taken_onEvent (steady_completeConfig s)⟩
  | timestampTick => exact h.exec ⟨_, rfl, taken_onEvent (steady_tick s)⟩
  | clkRunsAgain => exact clkRunsAgain_inputs h
  | syncByteSent => exact h.exec ⟨_, rfl, taken_phase nofun fun hb => by simp_all⟩
  | responseCrcSent => exact h.exec ⟨_, rfl, taken_phase nofun fun hb => by simp_all⟩

/-! ### Every law after every command -/

theorem Outcome.eventLaw {i : Instr} {s t : State} (h : Outcome i s t) (hs : EventLaw s) : EventLaw t := by
  rcases h.queueKept hs with hreset | ⟨-, -, -, -, hroom, -⟩
  · rw [EventLaw, hreset]
    decide
  · exact hroom

theorem exec_sound {i : Instr} {s t : State} (hexec : exec i s = .next t) (h : Sound s) : Sound t := by
  have houtcome := exec_next hexec
  have hinputs := h.inputs
  obtain ⟨t', ht', hcore⟩ := core_exec i h.core fun hheld => (hinputs.reset hheld).pendingSet
  obtain ⟨t'', ht'', htaken⟩ := exec_inputs i hinputs
  cases hexec.symm.trans ht'
  cases hexec.symm.trans ht''
  obtain ⟨-, -, -, -, -, -, -, -, -, hheartbeat, hsettings, -, hmint, hevent, -⟩ := h
  exact hcore.sound (houtcome.heartbeatLaw hheartbeat) (houtcome.settingsLaw hsettings) htaken.safe
    (houtcome.mintLaw hmint) (houtcome.eventLaw hevent) htaken.resetHoldLaw htaken.input

/-- The laws say nothing of the waiting commands. -/
theorem Sound.withPending {s : State} (h : Sound s) (rest : List Instr) : Sound { s with pending := rest } := h

/-- Settles O4: the laws that bind the blocks are kept by every command (`core_exec`), and so are those of the inputs
(`exec_inputs`), of the settings and of the event unit (`exec_outcome`). -/
theorem everyStepKeepsSound : Obligations.EveryStepKeepsSound := by
  intro s t hsound hstep
  rcases step_next hstep with rfl | ⟨i, rest, -, hexec⟩
  · exact hsound
  · exact exec_sound hexec (hsound.withPending rest)

end Sys2Proof.Machine
end

section
/-! What an event does to a channel that it is not about: the record stays, but for a pending drive that the arbiter may
put on the bus (R43, R62, R97). -/

namespace Sys2Proof.Machine

/-! ### A channel apart from the event -/

/-- The record of `c` as it was, but for a pending drive that may have been issued; no other drive of `c` is on the
bus. -/
structure Apart (c : Chan) (s t : State) : Prop where
  mode : t.ctl.mode = s.ctl.mode
  chan : t.chan c = s.chan c ∨ (s.chan c).slot.isSome = true ∧ t.chan c = { s.chan c with slot := none }
  flight : ∀ f, t.down.bus = .drive f → f.channel = c → s.down.bus = .drive f ∨ (s.chan c).slot.isSome = true

theorem Apart.refl (c : Chan) (s : State) : Apart c s s := ⟨rfl, .inl rfl, fun _ hf _ => .inl hf⟩

theorem Apart.trans {c : Chan} {s t u : State} (h : Apart c s t) (k : Apart c t u) : Apart c s u := by
  refine ⟨k.mode.trans h.mode, ?_, fun f hf hc => ?_⟩
  · rcases h.chan with ht | ⟨hslot, ht⟩
    · rw [← ht]
      exact k.chan
    · rcases k.chan with hu | ⟨hslot', -⟩
      · exact .inr ⟨hslot, hu.trans ht⟩
      · rw [ht] at hslot'
        cases hslot'
  · rcases k.flight f hf hc with hft | hslot'
    · exact h.flight f hft hc
    · rcases h.chan with ht | ⟨hslot, -⟩
      · rw [ht] at hslot'
        exact .inr hslot'
      · exact .inr hslot

/-- An operation that does not name the channels, and at most frees the bus. -/
theorem Apart.of_eq {c : Chan} {s t : State}
    (hsame : (t.channels, t.ctl.mode) = (s.channels, s.ctl.mode))
    (hdown : t.down = s.down ∨ t.down.bus = .idle) : Apart c s t := by
  simp only [Prod.mk.injEq] at hsame
  obtain ⟨hchannels, hmode⟩ := hsame
  refine ⟨hmode, .inl (by rw [State.chan, State.chan, hchannels]), fun f hf _ => ?_⟩
  rcases hdown with hsame | hidle
  · exact .inl (hsame ▸ hf)
  · rw [hidle] at hf
    cases hf

/-- What the arbiter puts on the bus was pending. -/
theorem arbitrate_flight {s : State} {f : InFlight} (h : (arbitrate s).down.bus = .drive f) :
    s.down.bus = .drive f ∨ (s.chan f.channel).slot.isSome = true := by
  rcases arbitrate_cases s with ⟨-, e⟩ | ⟨-, c, hc, -, e⟩ | ⟨-, -, -, e⟩ | ⟨hidle, -, -, e⟩ <;> rw [e] at h
  · exact .inl h
  · obtain ⟨hslot, hdesc⟩ := lowestPending_some hc
    obtain ⟨d, hd⟩ := Option.isSome_iff_exists.mp hdesc
    obtain ⟨v, hv⟩ := Option.isSome_iff_exists.mp hslot
    rw [issueDrive_eq hd hv] at h
    cases h
    exact .inr hslot
  · cases h
  · rw [hidle] at h
    cases h

theorem apart_arbitrate (c : Chan) (s : State) : Apart c s (arbitrate s) := by
  refine ⟨by rw [(calm_arbitrate s).ctl], ?_, fun f hf hc => hc ▸ arbitrate_flight hf⟩
  rcases arbitrate_chan s c with h | ⟨h, hslot⟩
  · exact .inl h
  · exact .inr ⟨hslot, h⟩

theorem Apart.arbitrate {c : Chan} {s t : State} (h : Apart c s t) : Apart c s (arbitrate t) :=
  h.trans (apart_arbitrate c t)

/-- An operation of another channel, for a channel that has requested no token. -/
theorem Apart.of_local {c k : Chan} {s t : State} (h : Local k s t) (hne : c ≠ k) (hfree : (s.chan c).requested = none) :
    Apart c s t := by
  refine ⟨by rw [h.ctl], .inl ?_, fun f hf _ => .inl (h.down ▸ hf)⟩
  rcases h.others c hne with hsame | hgranted
  · exact hsame
  · have hrequested := hgranted.requested
    rw [hfree] at hrequested
    cases hrequested

theorem Apart.requested {c : Chan} {s t : State} (h : Apart c s t) : (t.chan c).requested = (s.chan c).requested := by
  rcases h.chan with e | ⟨-, e⟩ <;> rw [e]

theorem Apart.onEvent {c : Chan} {s t : State} {b : Bool} (h : Apart c s t) : Apart c s (s.onEvent b t) := by
  rcases onEvent_cases s t b with e | e <;> rw [e]
  · exact h
  · exact .refl c s

section
variable {c k : Chan} {s : State} (hne : c ≠ k) (hfree : (s.chan c).requested = none)
include hne hfree

theorem apart_onHold {p : Channel → Bool} {body : Descriptor → State → State} (hbody : ∀ d u, Local k u (body d u)) :
    Apart c s (onHold k p body s) := by
  rcases onHold_cases k p body s with h | ⟨d, -, -, -, -, h⟩ <;> rw [h]
  · exact .refl c s
  · exact (Apart.of_local (hbody d s) hne hfree).arbitrate

theorem apart_onTrain {p : Channel → Bool} {body : Descriptor → TrainPart → State → State}
    (hbody : ∀ d q u, Local k u (body d q u)) : Apart c s (onTrain k p body s) := by
  rcases onTrain_cases k p body s with h | ⟨d, q, -, -, -, -, h⟩ <;> rw [h]
  · exact .refl c s
  · exact (Apart.of_local (hbody d q s) hne hfree).arbitrate

theorem apart_holdHeadTakes : Apart c s (holdHeadTakes k s) := apart_onHold hne hfree (local_takeHoldHeads k)

theorem apart_minHoldExpires : Apart c s (minHoldExpires k s) := apart_onHold hne hfree (local_becomeHeld k)

theorem apart_maxHoldExpires : Apart c s (maxHoldExpires k s) := apart_onHold hne hfree (local_forceRelease k)

theorem apart_holdRecoveryEnds : Apart c s (holdRecoveryEnds k s) := apart_onHold hne hfree (local_endHoldRecovery k)

theorem apart_trainHeadTakes : Apart c s (trainHeadTakes k s) := apart_onTrain hne hfree (local_takeTrainHead k)

theorem apart_markExpires : Apart c s (markExpires k s) := apart_onTrain hne hfree fun d _ => local_endMark k d

theorem apart_spaceExpires : Apart c s (spaceExpires k s) := apart_onTrain hne hfree fun _ p => local_endSpace k p

theorem apart_pauseExpires : Apart c s (pauseExpires k s) := apart_onTrain hne hfree (local_endPause k)

theorem apart_trainRecoveryEnds : Apart c s (trainRecoveryEnds k s) :=
  apart_onTrain hne hfree (local_endTrainRecovery k)

theorem apart_settleExpires : Apart c s (settleExpires k s) := .of_local (local_settleExpires k s) hne hfree

theorem apart_filterExpires : Apart c s (filterExpires k s) :=
  (Apart.of_local (local_confirmMismatch k s) hne hfree).arbitrate.onEvent

end

/-- The expiries of one channel, for another. -/
theorem apart_takeDueOf {c k : Chan} {s : State} (hne : c ≠ k) (hfree : (s.chan c).requested = none) :
    Apart c s (takeDueOf k s) := by
  have next {t u : State} (h : Apart c s t) (hop : (t.chan c).requested = none → Apart c t u) : Apart c s u :=
    h.trans (hop (h.requested.trans hfree))
  refine next ?_ (apart_filterExpires hne)
  refine next ?_ (apart_settleExpires hne)
  refine next ?_ (apart_trainRecoveryEnds hne)
  refine next ?_ (apart_pauseExpires hne)
  refine next ?_ (apart_spaceExpires hne)
  refine next ?_ (apart_markExpires hne)
  refine next ?_ (apart_holdRecoveryEnds hne)
  exact next (apart_minHoldExpires hne hfree) (apart_maxHoldExpires hne)

theorem apart_takeAppendedOf {c k : Chan} {s : State} (hne : c ≠ k) (hfree : (s.chan c).requested = none) :
    Apart c s (takeAppendedOf k s) := by
  have hfirst := apart_holdHeadTakes hne hfree
  have hsecond := hfirst.trans (apart_holdHeadTakes hne (hfirst.requested.trans hfree))
  exact hsecond.trans (apart_trainHeadTakes hne (hsecond.requested.trans hfree))

/-- An operation over a list of other channels. -/
theorem apart_foldl {op : Chan → State → State} {c : Chan}
    (hop : ∀ {k u}, c ≠ k → (u.chan c).requested = none → Apart c u (op k u)) {l : List Chan} (hl : c ∉ l) {s : State}
    (hfree : (s.chan c).requested = none) : Apart c s (l.foldl (fun u k => op k u) s) := by
  induction l generalizing s with
  | nil => exact .refl c s
  | cons k l ih =>
    have hfirst := hop (List.ne_of_not_mem_cons hl) hfree
    exact hfirst.trans (ih (List.not_mem_of_not_mem_cons hl) (hfirst.requested.trans hfree))

/-- An operation over all channels is, for `c`, its own operation among others. -/
theorem foldl_allChans (op : Chan → State → State) (c : Chan) (s : State) :
    ∃ ahead behind : List Chan, c ∉ ahead ∧ c ∉ behind ∧
      allChans.foldl (fun u k => op k u) s =
        behind.foldl (fun u k => op k u) (op c (ahead.foldl (fun u k => op k u) s)) := by
  obtain ⟨ahead, behind, hsplit⟩ := List.append_of_mem (mem_allChans c)
  have hnodup : (ahead ++ c :: behind).Nodup := hsplit ▸ allChans_pairwise_lt.imp ne_of_lt
  obtain ⟨-, hcons, hapart⟩ := List.nodup_append.mp hnodup
  refine ⟨ahead, behind, fun h => ?_, (List.nodup_cons.mp hcons).1, by rw [hsplit, List.foldl_append, List.foldl_cons]⟩
  exact hapart c h c List.mem_cons_self rfl

end Sys2Proof.Machine
end

section
/-! What an event can do to a channel that holds a value, is in a train or is in FAULT (R16, R47, R65 to R67): it stays
as it was, enters FAULT, ends its train, or goes with the part into a mode other than RUN. -/

namespace Sys2Proof.Machine

/-! ### A channel that stays in its state -/

/-- The state of the cadence and what it stands on stay as they were, and no drive is requested. -/
structure Keeps (x y : Channel) : Prop where
  state : y.state = x.state
  target : y.target = x.target
  requested : y.requested = x.requested
  marks : y.marks = x.marks
  trainCount : y.trainCount = x.trainCount
  minHold : x.minHold.isSome = true → y.minHold.isSome = true
  slot : x.slot = none → y.slot = none

theorem Keeps.refl (x : Channel) : Keeps x x := ⟨rfl, rfl, rfl, rfl, rfl, id, id⟩

theorem Keeps.trans {x y z : Channel} (h : Keeps x y) (k : Keeps y z) : Keeps x z :=
  ⟨k.state.trans h.state, k.target.trans h.target, k.requested.trans h.requested, k.marks.trans h.marks,
    k.trainCount.trans h.trainCount, k.minHold ∘ h.minHold, k.slot ∘ h.slot⟩

/-- Channel `c` stays in its state, the mode stands, and no other drive of `c` is on the bus. -/
structure Kept (c : Chan) (s t : State) : Prop where
  mode : t.ctl.mode = s.ctl.mode
  record : Keeps (s.chan c) (t.chan c)
  flight : ∀ f, t.down.bus = .drive f → f.channel = c → s.down.bus = .drive f ∨ (s.chan c).slot.isSome = true

theorem Apart.kept {c : Chan} {s t : State} (h : Apart c s t) : Kept c s t := by
  refine ⟨h.mode, ?_, h.flight⟩
  rcases h.chan with e | ⟨-, e⟩ <;> rw [e]
  · exact .refl _
  · exact ⟨rfl, rfl, rfl, rfl, rfl, id, fun _ => rfl⟩

theorem Kept.refl (c : Chan) (s : State) : Kept c s s := (Apart.refl c s).kept

theorem Kept.trans {c : Chan} {s t u : State} (h : Kept c s t) (k : Kept c t u) : Kept c s u := by
  refine ⟨k.mode.trans h.mode, h.record.trans k.record, fun f hf hc => ?_⟩
  rcases k.flight f hf hc with hft | hslot
  · exact h.flight f hft hc
  · refine .inr (Option.isSome_iff_ne_none.mpr fun hnone => ?_)
    rw [h.record.slot hnone] at hslot
    cases hslot

/-- An operation at the record of `c` itself. -/
theorem Kept.of_local {c k : Chan} {s t : State} (h : Local k s t) (hrecord : Keeps (s.chan c) (t.chan c)) :
    Kept c s t := ⟨by rw [h.ctl], hrecord, fun f hf _ => .inl (h.down ▸ hf)⟩

theorem keeps_modChan {c k : Chan} {f : Channel → Channel} {s : State} (h : Keeps (s.chan k) (f (s.chan k))) :
    Keeps (s.chan c) ((modChan k f s).chan c) := by
  rw [modChan_chan]
  split
  · rename_i hc
    rw [hc]
    exact h
  · exact .refl _

theorem kept_modComparison (c k : Chan) (f : FeedbackPart → Comparison → Comparison) (s : State) :
    Kept c s (modComparison k f s) := by
  refine ⟨by rw [(calm_modComparison k f s).ctl], keeps_modChan ?_, fun _ hf _ => .inl hf⟩
  split <;> exact ⟨rfl, rfl, rfl, rfl, rfl, id, id⟩

theorem kept_record (c : Chan) (k : EventKind) (j : Option Chan) (v : Option Byte) (a : Option Addr)
    (cause : Option SafeCause) (s : State) : Kept c s (record k j v a cause s) :=
  .of_local (local_record c k j v a cause s) (.refl _)

theorem kept_foldl {op : Chan → State → State} {c : Chan} (hop : ∀ k u, Kept c u (op k u)) (l : List Chan) (s : State) :
    Kept c s (l.foldl (fun u k => op k u) s) := by
  induction l generalizing s with
  | nil => exact .refl c s
  | cons k l ih => exact (hop k s).trans (ih _)

/-! ### What can become of a channel -/

/-- What an event can do to a channel out of the states that take heads and demand tokens. -/
inductive Fate (c : Chan) (s t : State) : Prop where
  | kept (h : Kept c s t)
  | faulted (h : (t.chan c).state = .fault) (hconfig : s.ctl.mode = .config → t.ctl.mode = .config)
  | ended (hs : (s.chan c).state = .mark ∨ (s.chan c).state = .space) (ht : (t.chan c).state = .recovering)
      (hmode : t.ctl.mode = s.ctl.mode)
  | away (hmode : t.ctl.mode ≠ .run)
      (hfault : (s.chan c).state = .fault → (t.chan c).state = .fault ∨ t.ctl.mode = .config)
      (hconfig : s.ctl.mode = .config → t.ctl.mode = .config)

theorem Fate.refl (c : Chan) (s : State) : Fate c s s := .kept (.refl c s)

theorem Apart.fate {c : Chan} {s t : State} (h : Apart c s t) : Fate c s t := .kept h.kept

/-- A channel in FAULT stays there, or the part reaches CONFIG. -/
theorem Fate.fault {c : Chan} {s t : State} (h : Fate c s t) (hs : (s.chan c).state = .fault) :
    (t.chan c).state = .fault ∨ t.ctl.mode = .config := by
  cases h with
  | kept h => exact .inl (h.record.state.trans hs)
  | faulted h _ => exact .inl h
  | ended htrain _ _ => rcases htrain with h | h <;> rw [hs] at h <;> cases h
  | away _ hfault _ => exact hfault hs

theorem Fate.config {c : Chan} {s t : State} (h : Fate c s t) (hs : s.ctl.mode = .config) : t.ctl.mode = .config := by
  cases h with
  | kept h => exact h.mode.trans hs
  | faulted _ hconfig => exact hconfig hs
  | ended _ _ hmode => exact hmode.trans hs
  | away _ _ hconfig => exact hconfig hs

/-- From FAULT, or from a mode other than RUN, into a mode other than RUN. -/
theorem Fate.then_away {c : Chan} {s t u : State} (h : Fate c s t) (k : Fate c t u) (hmode : u.ctl.mode ≠ .run) :
    Fate c s u := by
  refine .away hmode (fun hs => ?_) fun hs => k.config (h.config hs)
  rcases h.fault hs with hfault | hconfig
  · exact k.fault hfault
  · exact .inr (k.config hconfig)

theorem Fate.trans {c : Chan} {s t u : State} (h : Fate c s t) (k : Fate c t u) : Fate c s u := by
  by_cases hmode : u.ctl.mode = .run
  swap
  · exact h.then_away k hmode
  cases k with
  | away hrun _ _ => exact absurd hmode hrun
  | faulted hu hconfig => exact .faulted hu (hconfig ∘ h.config)
  | kept k =>
    cases h with
    | kept h => exact .kept (h.trans k)
    | faulted ht hconfig => exact .faulted (k.record.state.trans ht) fun hs => k.mode.trans (hconfig hs)
    | ended hs ht htmode => exact .ended hs (k.record.state.trans ht) (k.mode.trans htmode)
    | away hrun _ _ => exact absurd (k.mode.symm.trans hmode) hrun
  | ended htrain hu humode =>
    cases h with
    | kept h => exact .ended (by rwa [← h.record.state]) hu (humode.trans h.mode)
    | faulted ht _ => rcases htrain with h | h <;> rw [ht] at h <;> cases h
    | ended _ ht _ => rcases htrain with h | h <;> rw [ht] at h <;> cases h
    | away hrun _ _ => exact absurd (humode.symm.trans hmode) hrun

theorem Fate.arbitrate {c : Chan} {s t : State} (h : Fate c s t) : Fate c s (arbitrate t) :=
  h.trans (apart_arbitrate c t).fate

theorem Fate.onEvent {c : Chan} {s t : State} {b : Bool} (h : Fate c s t) : Fate c s (s.onEvent b t) := by
  rcases onEvent_cases s t b with e | e <;> rw [e]
  · exact h
  · exact .refl c s

theorem Fate.of_eq {c : Chan} {s t : State} (hsame : (t.channels, t.ctl.mode) = (s.channels, s.ctl.mode))
    (hdown : t.down = s.down ∨ t.down.bus = .idle) : Fate c s t := (Apart.of_eq hsame hdown).fate

theorem fate_respond (c : Chan) (r : Status) (p : List Byte) (s : State) : Fate c s (respond r p s) :=
  .of_eq rfl (.inl rfl)

theorem Fate.respond {c : Chan} {s t : State} {r : Status} {p : List Byte} (h : Fate c s t) : Fate c s (respond r p t) :=
  h.trans (fate_respond c r p t)

theorem Fate.ite {c : Chan} {s t u : State} {p : Prop} [Decidable p] (ht : Fate c s t) (hu : Fate c s u) :
    Fate c s (if p then t else u) := by
  split
  · exact ht
  · exact hu

theorem Fate.takeRequest {c : Chan} {n : Nat} {a : Acceptance} {p : List Byte} {s t : State}
    (h : takenIn a s.ctl.mode = true → Fate c s t) : Fate c s (takeRequest n a p s t) := by
  rcases takeRequest_cases n a p s t with e | ⟨-, r, e⟩ | ⟨-, -, -, hmode, e⟩ <;> rw [e]
  · exact .refl c s
  · exact fate_respond c r [] s
  · exact h hmode

theorem Fate.withChannel {c : Chan} {p : List Byte} {s : State} {f : Chan → State}
    (h : ∀ k, chanOf (byteAt p 0) = some k → Fate c s (f k)) : Fate c s (withChannel p s f) := by
  rcases withChannel_cases p s f with e | ⟨k, hk, e⟩ <;> rw [e]
  · exact fate_respond c _ _ s
  · exact h k hk

/-! ### The entry to FAULT (R105, R132) -/

section
variable {c : Chan} {s : State}

theorem apart_passToken (hfree : (s.chan c).requested = none) (g : Group) : Apart c s (passToken g s) := by
  obtain ⟨k, hk⟩ := exists_ne c
  exact .of_local (local_passToken k g s) hk.symm hfree

theorem apart_releaseToken (hfree : (s.chan c).requested = none) (k : Chan) : Apart c s (releaseToken k s) := by
  unfold releaseToken
  split
  · exact .refl c s
  · split
    · exact apart_passToken hfree _
    · exact .refl c s

theorem apart_withdraw (k : Chan) : Apart c s (withdraw k s) := by
  unfold withdraw
  split
  · exact .refl c s
  · exact .of_eq rfl (.inl rfl)

theorem apart_giveUpStall (concerns : Chan → Bool) : Apart c s (giveUpStall concerns s) := by
  rcases giveUpStall_cases concerns s with h | ⟨w, -, -, -, h⟩ <;> rw [h]
  · exact .refl c s
  · rw [answerHost_eq]
    exact .of_eq rfl (.inl rfl)

theorem faultChannel_state (hd : (s.chan c).desc.isSome = true) (cause : FaultCause) :
    ((faultChannel c cause s).chan c).state = .fault := by
  obtain ⟨d, hd⟩ := Option.isSome_iff_exists.mp hd
  rw [faultChannel, hd]
  dsimp only
  rw [faulted_eq]
  have hstate : ((faulted c d cause s).chan c).state = .fault := by rw [faulted, setChan_chan_self]
  have hfree : ((faulted c d cause s).chan c).requested = none := by rw [faulted, setChan_chan_self]
  have hapart := (apart_releaseToken hfree c).trans ((apart_withdraw c).trans (apart_giveUpStall (· == c)))
  exact hapart.kept.record.state.trans hstate

theorem fate_faultChannel (cause : FaultCause) : Fate c s (faultChannel c cause s) := by
  cases hd : (s.chan c).desc with
  | none =>
    rw [faultChannel, hd]
    exact .refl c s
  | some d =>
    refine .faulted (faultChannel_state (by rw [hd]; rfl) cause) fun hconfig => ?_
    rw [(local_faultChannel c cause s).ctl, hconfig]

/-! ### The feedback supervisor -/

theorem kept_reportStuck (k : Chan) : Kept c s (reportStuck k s) := by
  refine .of_local (local_reportStuck k s) ?_
  unfold reportStuck
  split
  · exact .refl _
  · exact keeps_modChan (f := fun x => { x with stuckReported := true }) ⟨rfl, rfl, rfl, rfl, rfl, id, id⟩

theorem fate_confirmMismatch : Fate c s (confirmMismatch c s) := by
  have hcompared := kept_modComparison c c (fun _ k => { k with phase := .confirmed, filter := none }) s
  have hrecorded : Kept c s (record .feedbackFault (some c) (s.chan c).driven none none
      (modComparison c (fun _ k => { k with phase := .confirmed, filter := none }) s)) :=
    hcompared.trans (kept_record c .feedbackFault (some c) (s.chan c).driven none none _)
  refine .ite (.kept (hcompared.trans (kept_reportStuck c))) (.ite (.kept hrecorded) ?_)
  exact (Fate.kept hrecorded).trans (fate_faultChannel .feedback)

theorem fate_filterExpires : Fate c s (filterExpires c s) := fate_confirmMismatch.arbitrate.onEvent

theorem kept_settleExpires (k : Chan) : Kept c s (settleExpires k s) := by
  unfold settleExpires
  rcases onEvent_cases s (modComparison k (fun _ x => x.settled (s.senseLevel k)) s)
    ((s.chan k).cmpPhase == some .settling && isDue ((s.chan k).cmp.bind (·.settle))) with e | e <;> rw [e]
  · exact kept_modComparison c k _ s
  · exact .refl c s

end

/-! ### A write examined for the channel (R21 to R25) -/

section
variable {c : Chan} {d : Descriptor} {s : State}

/-- An abort ends a train in SPACE, and outside WAITING and PAUSING leaves every other state. -/
theorem fate_abortTrain (hwaiting : (s.chan c).state ≠ .waiting) (hpausing : (s.chan c).state ≠ .pausing) :
    Fate c s (abortTrain c d s) := by
  have hlocal := local_abortTrain c d s
  have hchan : (abortTrain c d s).chan c = abortEffect d.gap { s.chan c with queue := [] } := by
    rw [abortTrain_of_not_waiting hwaiting, recordChannel_chan, setChan_chan_self]
  cases hstate : (s.chan c).state with
  | waiting => exact absurd hstate hwaiting
  | pausing => exact absurd hstate hpausing
  | space =>
    refine .ended (.inr hstate) ?_ (by rw [hlocal.ctl])
    rw [hchan]
    simp [abortEffect, hstate]
  | _ =>
    refine .kept (.of_local hlocal ?_)
    rw [hchan]
    simp only [abortEffect, hstate]
    exact ⟨hstate.symm ▸ rfl, rfl, rfl, rfl, rfl, id, id⟩

theorem fate_examine (hwaiting : (s.chan c).state ≠ .waiting) (hpausing : (s.chan c).state ≠ .pausing) (v : Byte)
    (o : Origin) : Fate c s (examine c d v o s).2 := by
  rcases examine_cases c d v o s with ⟨-, h⟩ | ⟨-, h⟩ | ⟨e, -, ⟨-, h⟩ | ⟨-, -, h⟩ | ⟨-, -, h⟩⟩ <;> rw [h]
  · exact .of_eq rfl (.inl rfl)
  · exact fate_abortTrain hwaiting hpausing
  · exact .refl c s
  · refine .kept (.of_local (local_appendEntry c e s) (keeps_modChan ?_))
    exact ⟨rfl, rfl, rfl, rfl, rfl, id, id⟩
  · exact .refl c s

theorem fate_answerHost (e : EndKind) (a : Option Byte) : Fate c s (answerHost e a s) := by
  rw [answerHost_eq]
  exact .of_eq rfl (.inl rfl)

theorem fate_reexamine (hwaiting : (s.chan c).state ≠ .waiting) (hpausing : (s.chan c).state ≠ .pausing) :
    Fate c s (reexamine c s) := by
  rcases reexamine_cases c s with h | ⟨w, d, -, -, -, -, -, h⟩ <;> rw [h]
  · exact .refl c s
  · exact (fate_examine hwaiting hpausing _ _).trans (fate_answerHost _ _)

/-- In a state that demands no token and takes no pause the channel comes to none that does. -/
theorem Fate.awake {t : State} (h : Fate c s t) (hrun : t.ctl.mode = .run) (hwaiting : (s.chan c).state ≠ .waiting)
    (hpausing : (s.chan c).state ≠ .pausing) : (t.chan c).state ≠ .waiting ∧ (t.chan c).state ≠ .pausing := by
  cases h with
  | kept h =>
    rw [h.record.state]
    exact ⟨hwaiting, hpausing⟩
  | faulted h _ =>
    rw [h]
    exact ⟨nofun, nofun⟩
  | ended _ h _ =>
    rw [h]
    exact ⟨nofun, nofun⟩
  | away hmode _ _ => exact absurd hrun hmode

end

end Sys2Proof.Machine
end

section
/-! The rows of the part, for a channel that holds a value, is in a train or is in FAULT. -/

namespace Sys2Proof.Machine

/-! ### The states in question -/

/-- A hold whose min-hold time is not over, a train in MARK or SPACE, or a fault. -/
def Engaged (x : Channel) : Prop :=
  (x.state = .holding ∧ ∃ n, x.minHold = some (n + 1)) ∨ x.state = .mark ∨ x.state = .space ∨ x.state = .fault

/-- The states from which no head is taken, no token demanded and no pause ended. -/
def Passive (st : ChanState) : Prop := st ≠ .resting ∧ st ≠ .waiting ∧ st ≠ .held ∧ st ≠ .pausing

theorem Engaged.passive {x : Channel} (h : Engaged x) : Passive x.state := by
  rcases h with ⟨h, -⟩ | h | h | h <;> rw [h] <;> exact ⟨nofun, nofun, nofun, nofun⟩

theorem Engaged.not_recovering {x : Channel} (h : Engaged x) : x.state ≠ .recovering := by
  rcases h with ⟨h, -⟩ | h | h | h <;> rw [h] <;> nofun

section
variable {c : Chan} {s : State}

theorem Core.cadence_or_fault (h : Core s) (he : Engaged (s.chan c)) : s.ctl.mode = .run ∨ (s.chan c).state = .fault := by
  cases hd : (s.chan c).desc with
  | none =>
    have hempty := (h.lawful.slots c).unconfigured hd
    rw [hempty] at he
    rcases he with ⟨h, -⟩ | h | h | h <;> cases h
  | some d =>
    have hcadence := (h.lawful.recordLaw hd).cadence
    rcases he with ⟨h, -⟩ | h | h | h
    · exact .inl (hcadence (by rw [h]; rfl))
    · exact .inl (hcadence (by rw [h]; rfl))
    · exact .inl (hcadence (by rw [h]; rfl))
    · exact .inr h

theorem Core.configured (h : Core s) (he : Engaged (s.chan c)) : (s.chan c).desc.isSome = true := by
  cases hd : (s.chan c).desc with
  | none =>
    have hempty := (h.lawful.slots c).unconfigured hd
    rw [hempty] at he
    rcases he with ⟨h, -⟩ | h | h | h <;> cases h
  | some d => rfl

theorem Core.not_config (h : Core s) (he : Engaged (s.chan c)) : s.ctl.mode ≠ .config := by
  rcases h.cadence_or_fault he with hrun | hfault
  · rw [hrun]
    nofun
  · obtain ⟨d, hd⟩ := Option.isSome_iff_exists.mp (h.configured he)
    exact (h.lawful.recordLaw hd).fault hfault

/-- Only a channel in WAITING has requested a token, and only in RUN. -/
theorem Core.requested_none (h : Core s) (hp : s.ctl.mode = .run → (s.chan c).state ≠ .waiting) :
    (s.chan c).requested = none := by
  cases hd : (s.chan c).desc with
  | none =>
    rw [(h.lawful.slots c).unconfigured hd]
    rfl
  | some d =>
    have hrecord := h.lawful.recordLaw hd
    rw [← Option.not_isSome_iff_eq_none, hrecord.field.1]
    intro hwaiting
    exact hp (hrecord.cadence (by rw [hwaiting]; rfl)) hwaiting

/-- Outside RUN a channel of these is in FAULT. -/
theorem Core.fault_of_transition (h : Core s) (he : Engaged (s.chan c)) (hm : s.ctl.mode.isTransition = true) :
    (s.chan c).state = .fault := by
  rcases h.cadence_or_fault he with hrun | hfault
  · rw [hrun] at hm
    cases hm
  · exact hfault

/-! ### The transitions (R142, R144, R146, R149, R150) -/

theorem enterRun_fault {x : Channel} (h : x.state = .fault) : x.enterRun = x := by
  unfold Channel.enterRun
  split
  · rw [if_pos h]
  · rfl

theorem transitionReport_fault (h : (s.chan c).state = .fault) :
    ((transitionReport s).chan c).state = .fault ∨ (transitionReport s).ctl.mode = .config := by
  rcases transitionReport_cases s with ⟨-, -, e⟩ | ⟨-, -, e⟩ | ⟨-, -, e⟩ | ⟨-, e⟩ <;> rw [e]
  · refine .inl ?_
    have hchan : (completeRun s).chan c = (s.chan c).enterRun := mapChans_chan (setMode .run s) c Channel.enterRun
    rw [hchan, enterRun_fault h]
    exact h
  · exact .inl h
  · exact .inr (by simp [completeConfig])
  · exact .inl h

theorem transitionReport_settled (h : s.ctl.mode.isTransition = false) : transitionReport s = s := by
  rcases transitionReport_cases s with ⟨-, hm, -⟩ | ⟨-, hm, -⟩ | ⟨-, hm, -⟩ | ⟨-, e⟩
  · rw [hm] at h; cases h
  · rw [hm] at h; cases h
  · rw [hm] at h; cases h
  · exact e

/-- In FAULT before and after, or the part reaches CONFIG. -/
theorem fate_of_fault {t : State} (hconfig : s.ctl.mode ≠ .config)
    (ht : (t.chan c).state = .fault ∨ t.ctl.mode = .config) : Fate c s t := by
  rcases ht with ht | ht
  · exact .faulted ht fun hs => absurd hs hconfig
  · exact .away (by rw [ht]; nofun) (fun _ => .inr ht) fun _ => ht

theorem fate_transitionReport (h : s.ctl.mode.isTransition = true → (s.chan c).state = .fault) :
    Fate c s (transitionReport s) := by
  cases hm : s.ctl.mode.isTransition with
  | false =>
    rw [transitionReport_settled hm]
    exact .refl c s
  | true =>
    refine fate_of_fault ?_ (transitionReport_fault (h hm))
    intro hconfig
    rw [hconfig] at hm
    cases hm

theorem requestTransitionDrives_fault (f : Descriptor → Byte) (h : (s.chan c).state = .fault) :
    (requestTransitionDrives f s).chan c = s.chan c := by
  rw [requestTransitionDrives_chan]
  split
  · rw [if_pos h]
  · rfl

theorem leaveRun_fault {x : Channel} (h : x.state = .fault) : x.leaveRun.state = .fault := by
  unfold Channel.leaveRun
  split
  · rw [if_pos h]
    exact h
  · exact h

theorem clearRun_fault (next : Mode) (h : (s.chan c).state = .fault) : ((clearRun next s).chan c).state = .fault := by
  have hleft : ((setHeartbeat none (clearGroups (mapChans Channel.leaveRun (setMode next s)))).chan c).state = .fault := by
    rw [setHeartbeat_chan, clearGroups_chan, mapChans_chan, setMode_chan]
    exact leaveRun_fault h
  rw [clearRun, requestTransitionDrives_fault _ hleft]
  exact hleft

theorem fate_leaveRun {next : Mode} (hrun : s.ctl.mode = .run) (hnext : ¬ TowardRun next) :
    Fate c s (leaveRun next s) := by
  rw [leaveRun_eq]
  have hmode : ¬ TowardRun (transitionReport (clearRun next (giveUpStall (fun _ => true) s))).ctl.mode := fun htoward =>
    hnext (by simpa [clearRun] using away_transitionReport _ htoward)
  refine .away (fun h => hmode (.inl h)) (fun hfault => transitionReport_fault (clearRun_fault next ?_)) fun hconfig => ?_
  · rw [(apart_giveUpStall _).kept.record.state]
    exact hfault
  · rw [hrun] at hconfig
    cases hconfig

theorem fate_leaveRunToSafe (hrun : s.ctl.mode = .run) (cause : SafeCause) : Fate c s (leaveRunToSafe cause s) := by
  have hcause : Fate c s (setSafeCause cause s) := .of_eq rfl (.inl rfl)
  have hleft : Fate c (setSafeCause cause s) (leaveRun .enteringSafe (setSafeCause cause s)) :=
    fate_leaveRun hrun (by simp [TowardRun])
  exact hcause.trans hleft

theorem fate_heartbeatExpires : Fate c s (heartbeatExpires s) := by
  unfold heartbeatExpires State.onEvent
  split
  · rename_i htaken
    simp only [Bool.and_eq_true, beq_iff_eq] at htaken
    have hrecorded := kept_record c .heartbeatLost none none none none s
    have hleft := fate_leaveRunToSafe (c := c) (hrecorded.mode.trans htaken.2.1) .heartbeat
    exact ((Fate.kept hrecorded).trans hleft).arbitrate
  · exact .refl c s

/-- The transition drives of a channel in FAULT are none, and the transition ends with it in FAULT or in CONFIG. -/
theorem begunTransition_fault (f : Descriptor → Byte) (h : (s.chan c).state = .fault) :
    ((transitionReport (requestTransitionDrives f s)).chan c).state = .fault ∨
      (transitionReport (requestTransitionDrives f s)).ctl.mode = .config := by
  refine transitionReport_fault ?_
  rw [requestTransitionDrives_fault f h]
  exact h

theorem actOnSafeLow_fault (hfault : (s.chan c).state = .fault) :
    ((actOnSafeLow s).chan c).state = .fault ∨ (actOnSafeLow s).ctl.mode = .config := by
  unfold actOnSafeLow
  split
  · rename_i hm
    exact (fate_leaveRunToSafe hm .safeLine).fault hfault
  · have hturned : ((setMode .enteringSafe (setSafeCause .safeLine s)).chan c).state = .fault := by
      rw [setMode_chan]
      exact hfault
    exact begunTransition_fault _ hturned
  all_goals exact .inl hfault

/-- The fall of SAFE# in ENTERING_RUN turns the transition, and leaves FAULT alone. -/
theorem fate_actOnSafeLow : Fate c s (actOnSafeLow s) := by
  have hnot := actOnSafeLow_not_towardRun s
  refine .away (fun h => hnot (.inl h)) actOnSafeLow_fault fun hconfig => ?_
  unfold actOnSafeLow
  rw [hconfig]
  exact hconfig

theorem fate_takeSafeLine : Fate c s (takeSafeLine s) := by
  unfold takeSafeLine
  split
  · exact .refl c s
  · exact fate_actOnSafeLow.arbitrate

/-- RESUME leaves FAULT alone. -/
theorem fate_beginRun (hfault : (s.chan c).state = .fault) (hconfig : s.ctl.mode ≠ .config) :
    Fate c s (beginRun s) := by
  have hentered : ((setMode .enteringRun s).chan c).state = .fault := by
    rw [setMode_chan]
    exact hfault
  unfold beginRun
  exact fate_of_fault hconfig (begunTransition_fault (·.rest) hentered)

theorem fate_completeConfig (hconfig : s.ctl.mode ≠ .config) : Fate c s (completeConfig s) := by
  have hmode : (completeConfig s).ctl.mode = .config := by simp [completeConfig]
  exact fate_of_fault hconfig (.inr hmode)

/-! ### The ends of a drive write (R101, R104) -/

theorem cadenceCompletion_engaged (he : Engaged (s.chan c)) : Kept c s (cadenceCompletion c s) := by
  have hrecovering := he.not_recovering
  refine .of_local (local_cadenceCompletion c s) ?_
  unfold cadenceCompletion
  split
  · exact .refl _
  · rename_i d _
    split
    · rename_i p _
      rw [holdCompletion_none]
      · exact .refl _
      · rintro ⟨hholding, hnone⟩
        rcases he with ⟨-, n, hn⟩ | h | h | h
        · rw [hn] at hnone
          cases hnone
        · rw [hholding] at h; cases h
        · rw [hholding] at h; cases h
        · rw [hholding] at h; cases h
      · exact fun h => hrecovering h.1
    · refine keeps_modChan ?_
      split
      · exact ⟨rfl, rfl, rfl, rfl, rfl, id, id⟩
      · split
        · exact ⟨rfl, rfl, rfl, rfl, rfl, id, id⟩
        · split
          · exact ⟨rfl, rfl, rfl, rfl, rfl, id, id⟩
          · exact .refl _

theorem kept_driven (k : Chan) (v : Option Byte) : Kept c s (modChan k (fun x => { x with driven := v }) s) :=
  .of_local (local_modChan ⟨rfl, rfl, id, .of_eq rfl⟩) (keeps_modChan ⟨rfl, rfl, rfl, rfl, rfl, id, id⟩)

theorem modComparison_minHold (k : Chan) (f : FeedbackPart → Comparison → Comparison) :
    ((modComparison k f s).chan c).minHold = (s.chan c).minHold := by
  rw [modComparison, modChan_chan]
  split
  · rename_i hc
    rw [hc]
    split <;> rfl
  · rfl

/-- The driven value and the comparison say nothing of the cadence. -/
theorem engaged_driven {f : InFlight} {v : Option Byte} {g : FeedbackPart → Comparison → Comparison}
    (he : Engaged (s.chan f.channel)) :
    Engaged ((modComparison f.channel g (modChan f.channel (fun x => { x with driven := v }) s)).chan f.channel) := by
  have hkept := (kept_driven (c := f.channel) (s := s) f.channel v).trans (kept_modComparison f.channel f.channel g _)
  unfold Engaged
  rw [hkept.record.state, modComparison_minHold, modChan_chan_self]
  exact he

theorem fate_creditCompletion {f : InFlight} (he : Engaged (s.chan c)) (hfree : (s.chan c).requested = none) :
    Fate c s (creditCompletion f s) := by
  by_cases hc : c = f.channel
  · subst hc
    have hcredited : Kept f.channel s (modComparison f.channel (fun fb k => k.completion fb f.value)
        (modChan f.channel (fun x => { x with driven := some f.value }) s)) :=
      (kept_driven f.channel (some f.value)).trans (kept_modComparison f.channel f.channel _ _)
    exact .ite (.kept (hcredited.trans (cadenceCompletion_engaged (engaged_driven he)))) (.kept hcredited)
  · exact (Apart.of_local (local_creditCompletion f s) hc hfree).fate

theorem fate_chargeTimeout {f : InFlight} (hfree : (s.chan c).requested = none) :
    Fate c s (chargeTimeout f s) := by
  by_cases hc : c = f.channel
  · subst hc
    have hlost : Kept f.channel s (modComparison f.channel (fun _ _ => .unknown)
        (modChan f.channel (fun x => { x with driven := none }) s)) :=
      (kept_driven f.channel none).trans (kept_modComparison f.channel f.channel _ _)
    exact .ite ((Fate.kept hlost).trans (fate_faultChannel _)) (.kept hlost)
  · exact (Apart.of_local (local_chargeTimeout f s) hc hfree).fate

theorem kept_updateMark (k : Chan) : Kept c s (updateMark k s) := by
  have hcalm := calm_updateMark k s
  refine ⟨by rw [hcalm.ctl], keeps_modChan ?_, fun f hf _ => .inl hf⟩
  split <;> exact ⟨rfl, rfl, rfl, rfl, rfl, id, id⟩

theorem fate_endDrive {u : State} (h : Fate c s u) (hmode : u.ctl.mode = s.ctl.mode)
    (hfault : s.ctl.mode.isTransition = true → (s.chan c).state = .fault) (k : Chan) : Fate c s (endDrive k u) := by
  have hmarked : Kept c u (updateMark k u) := kept_updateMark k
  refine ((h.trans (.kept hmarked)).trans (fate_transitionReport fun htransition => ?_)).arbitrate
  rw [hmarked.mode, hmode] at htransition
  rw [hmarked.record.state]
  rcases h.fault (hfault htransition) with hu | hconfig
  · exact hu
  · rw [← hmode, hconfig] at htransition
    cases htransition

end

end Sys2Proof.Machine
end

section
/-! Every row but the tick, for a channel that holds a value, is in a train or is in FAULT: it stays, enters FAULT, ends
its train, or leaves RUN with the part; CLEAR_FAULT and the expiries of its train are told apart. -/

namespace Sys2Proof.Machine

/-! ### Host cycles (R108, R116 to R119, R124) -/

section
variable {c : Chan} {s : State}

/-- In RUN the channel is in no state that an abort takes back to RESTING; and it has requested no token. -/
structure Awake (c : Chan) (s : State) : Prop where
  state : s.ctl.mode = .run → (s.chan c).state ≠ .waiting ∧ (s.chan c).state ≠ .pausing
  free : (s.chan c).requested = none

theorem Core.awake (h : Core s) (hstate : s.ctl.mode = .run → (s.chan c).state ≠ .waiting ∧ (s.chan c).state ≠ .pausing) :
    Awake c s := ⟨hstate, h.requested_none fun hm => (hstate hm).1⟩

theorem Awake.of_eq {t : State} (h : Awake c s) (hsame : (t.channels, t.ctl.mode) = (s.channels, s.ctl.mode)) :
    Awake c t := by
  simp only [Prod.mk.injEq] at hsame
  obtain ⟨hchannels, hmode⟩ := hsame
  have hchan : t.chan c = s.chan c := by rw [State.chan, State.chan, hchannels]
  exact ⟨by rw [hchan, hmode]; exact h.state, by rw [hchan]; exact h.free⟩

theorem Awake.examine (h : Awake c s) (hrun : s.ctl.mode = .run) (k : Chan) (d : Descriptor) (v : Byte) (o : Origin) :
    Fate c s (Machine.examine k d v o s).2 := by
  obtain ⟨hwaiting, hpausing⟩ := h.state hrun
  by_cases hk : c = k
  · subst hk
    exact fate_examine hwaiting hpausing v o
  · exact (Apart.of_local (local_examine k d v o s) hk h.free).fate

theorem Awake.reexamine (h : Awake c s) (hrun : s.ctl.mode = .run) (k : Chan) : Fate c s (Machine.reexamine k s) := by
  obtain ⟨hwaiting, hpausing⟩ := h.state hrun
  by_cases hk : c = k
  · subst hk
    exact fate_reexamine hwaiting hpausing
  · exact (Apart.of_local (local_reexamine k s) hk h.free).fate

theorem fate_recordChannel (e : EventKind) (k : Chan) (v : Byte) : Fate c s (recordChannel e k v s) :=
  .of_eq rfl (.inl rfl)

theorem Awake.handToQueues (h : Awake c s) (hrun : s.ctl.mode = .run) (k : Chan) (d : Descriptor) (v : Byte) :
    Fate c s (Machine.handToQueues k d v s) := by
  have hexamined := h.examine hrun k d v .host
  unfold Machine.handToQueues
  split
  · rename_i e t hx
    rw [hx] at hexamined
    split
    · exact (hexamined.trans (fate_recordChannel _ k v)).trans (fate_answerHost _ _)
    · exact hexamined.trans (.of_eq rfl (.inl rfl))
  all_goals
    rename_i t hx
    rw [hx] at hexamined
    exact hexamined.trans (fate_answerHost _ _)

theorem fate_arrive (k : CycleKind) (a : Addr) (v : Option Byte) (d : Option HostDecode) :
    Fate c s (arrive k a v d s) := .of_eq rfl (.inl rfl)

theorem Awake.governedWriteArrives (h : Awake c s) (a : Addr) (v : Byte) (k : Chan) :
    Fate c s (Machine.governedWriteArrives a v k s) := by
  have harrived : Fate c s (arrive .write a (some v) (some (.governed k)) s) := fate_arrive _ _ _ _
  unfold Machine.governedWriteArrives
  split
  · exact .refl c s
  · dsimp only
    split
    · exact (harrived.trans (fate_recordChannel _ k v)).trans (fate_answerHost _ _)
    · rename_i hgoverns
      have hrun : s.ctl.mode = .run := not_not.mp fun hm => hgoverns (.inl hm)
      have hawake : Awake c (arrive .write a (some v) (some (.governed k)) s) := h.of_eq rfl
      exact harrived.trans (hawake.handToQueues hrun k _ v)

theorem fate_governedReadArrives (a : Addr) (k : Chan) : Fate c s (governedReadArrives a k s) :=
  (fate_arrive _ _ _ _).trans (fate_answerHost _ _)

theorem fate_passArrives (a : Addr) (data : Option Byte) : Fate c s (passArrives a data s) := by
  refine Fate.arbitrate ?_
  exact .of_eq rfl (.inl rfl)

theorem fate_invalidArrives (a : Addr) : Fate c s (invalidArrives a s) :=
  (fate_arrive _ _ _ _).trans (fate_answerHost _ _)

theorem fate_arrivesInReset (m : HostStrobes) : Fate c s (arrivesInReset m s) :=
  (fate_arrive _ _ _ _).trans (fate_answerHost _ _)

theorem Awake.arrives (h : Awake c s) (m : HostStrobes) : Fate c s (Machine.arrives m s) := by
  unfold Machine.arrives
  split
  · split
    · exact fate_governedReadArrives _ _
    · exact fate_passArrives _ _
  · split
    · exact h.governedWriteArrives _ _ _
    · exact fate_passArrives _ _
  · exact fate_invalidArrives _

theorem Fate.onArrival {t : State} {b : Bool} {m : HostStrobes} (h : Fate c s t) : Fate c s (s.onArrival b m t) :=
  .ite (.refl c s) (.ite (.ite h (.refl c s)) (.ite (.refl c s) (.of_eq rfl (.inl rfl))))

theorem fate_strobesReleased : Fate c s (strobesReleased s) := by
  rw [strobesReleased_frame]
  exact .of_eq rfl (.inl rfl)

theorem Awake.strobesReleased (h : Awake c s) : Awake c (strobesReleased s) := by
  rw [strobesReleased_frame]
  exact h.of_eq rfl

theorem Awake.takeStrobes (h : Awake c s) {arrival : HostStrobes → State → State}
    (harrival : ∀ m u, Awake c u → Fate c u (arrival m u)) : Fate c s (Machine.takeStrobes arrival s) := by
  have htaken : Fate c s (strobesTaken s) := .of_eq rfl (.inl rfl)
  have hawake : Awake c (strobesTaken s) := h.of_eq rfl
  have hreleased := htaken.trans fate_strobesReleased
  rcases takeStrobes_cases arrival s with ⟨-, e⟩ | ⟨m, -, ⟨-, w, k, -, -, -, e⟩ | e | ⟨w, -, -, e⟩⟩ <;> rw [e]
  · exact .refl c s
  · exact htaken
  · exact hreleased
  · exact hreleased.trans (harrival w _ hawake.strobesReleased)

/-! ### The transaction and the inputs taken together (R173, R178, R195) -/

theorem fate_resetPart : Fate c s (resetPart s) := .away nofun (fun _ => .inr rfl) fun _ => rfl

theorem fate_openTransaction : Fate c s (openTransaction s) := .of_eq rfl (.inl rfl)

theorem fate_closeTransaction : Fate c s (closeTransaction s) := .ite fate_resetPart (.of_eq rfl (.inl rfl))

theorem fate_takeSelect : Fate c s (takeSelect s) := .ite fate_openTransaction (.ite fate_closeTransaction (.refl c s))

/-- A state on the way through the inputs, from the first one. -/
structure Passing (c : Chan) (s t : State) : Prop where
  core : Core t
  awake : Awake c t
  fate : Fate c s t

theorem Passing.step {t u : State} (h : Passing c s t) (hcore : Core u) (hfate : Fate c t u) : Passing c s u := by
  refine ⟨hcore, hcore.awake fun hrun => ?_, h.fate.trans hfate⟩
  by_cases ht : t.ctl.mode = .run
  · obtain ⟨hwaiting, hpausing⟩ := h.awake.state ht
    exact hfate.awake hrun hwaiting hpausing
  · cases hfate with
    | kept hkept => exact absurd (hkept.mode.symm.trans hrun) ht
    | faulted hfault _ =>
      rw [hfault]
      exact ⟨nofun, nofun⟩
    | ended _ hended _ =>
      rw [hended]
      exact ⟨nofun, nofun⟩
    | away hmode _ _ => exact absurd hrun hmode

theorem Passing.takeSelect {t : State} (h : Passing c s t) : Passing c s (takeSelect t) :=
  h.step (core_takeSelect h.core) fate_takeSelect

theorem Passing.takeStrobes {t : State} (h : Passing c s t) : Passing c s (takeStrobes arrives t) :=
  h.step (core_takeArrivals h.core) (h.awake.takeStrobes fun m _ hu => hu.arrives m)

theorem Passing.takeSafeLine {t : State} (h : Passing c s t) : Passing c s (takeSafeLine t) :=
  h.step (core_takeSafeLine h.core) fate_takeSafeLine

theorem Passing.takePins {t : State} (h : Passing c s t) (order : Fin 6) : Passing c s (takePins order t) := by
  unfold Machine.takePins
  split
  · exact h.takeSelect.takeStrobes.takeSafeLine
  · exact h.takeSelect.takeSafeLine.takeStrobes
  · exact h.takeStrobes.takeSelect.takeSafeLine
  · exact h.takeStrobes.takeSafeLine.takeSelect
  · exact h.takeSafeLine.takeSelect.takeStrobes
  · exact h.takeSafeLine.takeStrobes.takeSelect

theorem fate_takeSense : Fate c s (takeSense s) :=
  .kept (kept_foldl (fun k u => kept_modComparison c k (fun _ x => x.sensed (u.senseLevel k)) u) allChans s)

theorem Awake.takeInputsInReset (h : Awake c s) : Fate c s (takeInputsInReset s) := by
  rw [takeInputsInReset_eq]
  have hselect : Fate c s (selectInReset s) := .of_eq rfl (.inl rfl)
  have hawake : Awake c (selectInReset s) := h.of_eq rfl
  exact hselect.trans (hawake.takeStrobes fun m _ _ => fate_arrivesInReset m)

theorem fate_clkRunsAgain (h : Core s) (hawake : Awake c s) : ∃ t, exec .clkRunsAgain s = .next t ∧ Fate c s t := by
  refine ⟨_, rfl, ?_⟩
  split
  · exact .refl c s
  · have hclock : Core (setClock true s) := h.of_blocks rfl rfl
    have hrunning : Fate c s (setClock true s) := .of_eq rfl (.inl rfl)
    have hclockAwake : Awake c (setClock true s) := hawake.of_eq rfl
    unfold takeInputs
    split
    · exact hrunning.trans hclockAwake.takeInputsInReset
    · exact (Passing.takePins ⟨hclock, hclockAwake, hrunning⟩ _).fate.trans fate_takeSense

theorem Awake.endHold {t : State} (h : Awake c s) (hsame : (t.channels, t.ctl.mode) = (s.channels, s.ctl.mode))
    (hdown : t.down = s.down) : Fate c s (endHold s t) := by
  have hpin : Fate c s t := .of_eq hsame (.inl hdown)
  exact .ite (hpin.trans (h.of_eq hsame).takeInputsInReset) hpin

/-! ### The rows of the expiries and heads -/

theorem onHold_skip {p : Channel → Bool} {body : Descriptor → State → State}
    (h : s.ctl.mode = .run → p (s.chan c) = false) : onHold c p body s = s := by
  rcases onHold_cases c p body s with e | ⟨d, -, -, hrun, hp, -⟩
  · exact e
  · rw [h hrun] at hp
    cases hp

theorem onTrain_skip {p : Channel → Bool} {body : Descriptor → TrainPart → State → State}
    (h : s.ctl.mode = .run → p (s.chan c) = false) : onTrain c p body s = s := by
  rcases onTrain_cases c p body s with e | ⟨d, q, -, -, hrun, hp, -⟩
  · exact e
  · rw [h hrun] at hp
    cases hp

section
variable (h : s.ctl.mode = .run → Passive (s.chan c).state)
include h

theorem holdHeadTakes_skip : holdHeadTakes c s = s :=
  onHold_skip fun hrun => by
    obtain ⟨hresting, hwaiting, hheld, -⟩ := h hrun
    simp [holdTakes, hresting, hwaiting, hheld]

theorem trainHeadTakes_skip : trainHeadTakes c s = s :=
  onTrain_skip fun hrun => by
    obtain ⟨hresting, -, -, -⟩ := h hrun
    simp [hresting]

theorem maxHoldExpires_skip : maxHoldExpires c s = s :=
  onHold_skip fun hrun => by
    obtain ⟨-, -, hheld, -⟩ := h hrun
    simp [maxHoldDue, hheld]

theorem pauseExpires_skip : pauseExpires c s = s :=
  onTrain_skip fun hrun => by
    obtain ⟨-, -, -, hpausing⟩ := h hrun
    simp [hpausing]

end

theorem recoveryEnds_skip (h : (s.chan c).state ≠ .recovering ∨ (s.chan c).recovery = none) :
    holdRecoveryEnds c s = s ∧ trainRecoveryEnds c s = s := by
  refine ⟨onHold_skip fun _ => ?_, onTrain_skip fun _ => ?_⟩ <;> rcases h with h | h <;> simp [h, isDue]

theorem minHoldExpires_skip (he : Engaged (s.chan c)) : minHoldExpires c s = s :=
  onHold_skip fun _ => by
    rcases he with ⟨-, n, hn⟩ | h | h | h
    · simp [hn, isDue]
    · simp [h]
    · simp [h]
    · simp [h]

end

end Sys2Proof.Machine
end

section
/-! O11: a channel leaves FAULT by CLEAR_FAULT, or in an event that reaches CONFIG. And what every row but the tick and
the two expiries of a train does to a channel that holds a value, is in a train or is in FAULT. -/

namespace Sys2Proof.Machine

section
variable {c : Chan} {s : State}

theorem acceptHeld_none (h : s.mgmt.pendingSet = none) : acceptHeld s = s := by
  rw [acceptHeld, h]

theorem Core.pendingSet_none (h : Core s) (hconfig : s.ctl.mode ≠ .config) : s.mgmt.pendingSet = none := by
  cases hq : s.mgmt.pendingSet with
  | none => rfl
  | some q => exact absurd (h.holdBack q hq).1 hconfig

/-- The end of a pass-through cycle, with no request held back. -/
theorem fate_endPass (h : s.mgmt.pendingSet = none) : Fate c s (endPass s) := by
  rw [endPass, acceptHeld_none h]
  exact (apart_arbitrate c s).fate

/-! ### Requests -/

theorem fate_takeRequest {n : Nat} {a : Acceptance} {p : List Byte} {i : Instr} {t : State}
    (hexec : exec i s = .next (takeRequest n a p s t)) (h : takenIn a s.ctl.mode = true → Fate c s t) :
    ∃ t, exec i s = .next t ∧ Fate c s t := ⟨_, hexec, .takeRequest h⟩

theorem fate_begun (h : Core s) (he : Engaged (s.chan c)) (hsafe : s.ctl.mode = .safe) :
    Fate c s (if s.pins.safeHigh then respond .accepted [] (arbitrate (beginRun s)) else respond .safeLine [] s) := by
  have hfault : (s.chan c).state = .fault := by
    rcases h.cadence_or_fault he with hrun | hfault
    · rw [hsafe] at hrun
      cases hrun
    · exact hfault
  exact .ite (fate_beginRun hfault (h.not_config he)).arbitrate.respond (fate_respond c _ _ s)

theorem fate_stop (h : Core s) (he : Engaged (s.chan c)) (p : List Byte) :
    ∃ t, exec (.stop p) s = .next t ∧ Fate c s t := by
  refine fate_takeRequest rfl fun _ => ?_
  split
  · rename_i hrun
    exact (fate_leaveRun hrun (by simp [TowardRun])).arbitrate.respond
  · exact (fate_completeConfig (h.not_config he)).respond

theorem fate_enterSafe (p : List Byte) : ∃ t, exec (.enterSafe p) s = .next t ∧ Fate c s t := by
  refine fate_takeRequest rfl fun _ => ?_
  split
  · rename_i hrun
    exact (fate_leaveRunToSafe hrun .command).arbitrate.respond
  · exact fate_respond c _ _ s

theorem fate_purge (hawake : Awake c s) (p : List Byte) : ∃ t, exec (.purge p) s = .next t ∧ Fate c s t := by
  refine fate_takeRequest rfl fun hm => .withChannel fun k _ => .ite (fate_respond c _ _ s) (Fate.respond ?_)
  have hrun : s.ctl.mode = .run := eq_of_beq hm
  have hempty : Kept c s (emptyQueue k s) :=
    .of_local (local_emptyQueue k s) (keeps_modChan ⟨rfl, rfl, rfl, rfl, rfl, id, id⟩)
  have hpurged : Kept c s
      (recordChannel .queuePurged k (BitVec.ofNat 8 (s.chan k).queue.length) (emptyQueue k s)) :=
    hempty.trans (kept_record c _ _ _ _ _ _)
  have hpurgedAwake : Awake c
      (recordChannel .queuePurged k (BitVec.ofNat 8 (s.chan k).queue.length) (emptyQueue k s)) := by
    refine ⟨fun hmode => ?_, ?_⟩
    · rw [hpurged.record.state]
      exact hawake.state (hpurged.mode.symm.trans hmode)
    · rw [hpurged.record.requested]
      exact hawake.free
  exact (Fate.kept hpurged).trans (hpurgedAwake.reexamine (hpurged.mode.trans hrun) k)

theorem fate_queueWriteExamined (hawake : Awake c s) (hrun : s.ctl.mode = .run) (k : Chan) (d : Descriptor) (v : Byte) :
    Fate c s (queueWriteExamined k d v s) := by
  have hexamined := hawake.examine hrun k d v .mgmt
  have hlocal := local_examine k d v .mgmt s
  unfold queueWriteExamined
  split
  all_goals
    rename_i t hx
    rw [hx] at hexamined hlocal
  · exact (hexamined.trans (fate_recordChannel _ k v)).respond
  · exact hexamined.respond
  · have ht : t.ctl.mode = .run := by rw [hlocal.ctl, hrun]
    obtain ⟨hwaiting, hpausing⟩ := hawake.state hrun
    by_cases hk : c = k
    · subst hk
      obtain ⟨hwaiting', hpausing'⟩ := hexamined.awake ht hwaiting hpausing
      exact (hexamined.trans (fate_reexamine hwaiting' hpausing')).arbitrate.respond
    · have hfree : (t.chan c).requested = none :=
        (Apart.of_local hlocal hk hawake.free).requested.trans hawake.free
      exact (hexamined.trans (Apart.of_local (local_reexamine k t) hk hfree).fate).arbitrate.respond
  · exact hexamined.respond
  · exact hexamined.respond

theorem fate_queueWrite (hawake : Awake c s) (p : List Byte) : ∃ t, exec (.queueWrite p) s = .next t ∧ Fate c s t := by
  refine fate_takeRequest rfl fun hm => .withChannel fun k _ => ?_
  dsimp only
  split
  · exact (fate_recordChannel _ k _).respond
  · exact .ite (fate_recordChannel _ k _).respond (fate_queueWriteExamined hawake (eq_of_beq hm) k _ _)

theorem fate_badCommand (frame : List Byte) : ∃ t, exec (.badCommand frame) s = .next t ∧ Fate c s t := by
  refine ⟨_, rfl, ?_⟩
  split
  · exact .refl c s
  · split
    · exact .refl c s
    · exact (fate_respond c _ _ s).onEvent

/-- CLEAR_FAULT of another channel, or of one that is not in FAULT. -/
theorem fate_clearFault (hawake : Awake c s) {p : List Byte}
    (hother : chanOf (byteAt p 0) = some c → (s.chan c).state ≠ .fault) :
    ∃ t, exec (.clearFault p) s = .next t ∧ Fate c s t := by
  refine fate_takeRequest rfl fun _ => .withChannel fun k hk => ?_
  split
  · exact fate_respond c _ _ s
  · split
    · exact fate_respond c _ _ s
    · rename_i hfault
      rw [not_not] at hfault
      have hne : c ≠ k := by
        rintro rfl
        exact hother hk hfault
      refine .ite ?_ ?_
      · exact (Apart.of_local (local_clearFaultInRun k _ s) hne hawake.free).arbitrate.fate.respond
      · exact (Apart.of_local (local_clearFaultInSafe k _ s) hne hawake.free).fate.respond

/-! ### The ends of the cycles on the bus, and the stall -/

theorem fate_freeBus : Fate c s (freeBus s) := .of_eq rfl (.inr rfl)

theorem fate_reportHeartbeat : Fate c s (reportHeartbeat s) := .ite (.of_eq rfl (.inl rfl)) (.refl c s)

theorem reportHeartbeat_mgmt : (reportHeartbeat s).mgmt = s.mgmt := by
  unfold reportHeartbeat
  split <;> rfl

theorem fate_passThroughCompletion (h : Core s) (he : Engaged (s.chan c)) (dd : Byte) :
    ∃ t, exec (.passThroughCompletion dd) s = .next t ∧ Fate c s t := by
  have hpending := h.pendingSet_none (h.not_config he)
  refine ⟨_, rfl, ?_⟩
  split
  · exact .refl c s
  · have hanswered (answer : Option Byte) : Fate c s (answerHost .normal answer (freeBus s)) :=
      fate_freeBus.trans (fate_answerHost _ _)
    have hnone (answer : Option Byte) : (answerHost .normal answer (freeBus s)).mgmt.pendingSet = none := by
      rw [(calm_answerHost .normal answer (freeBus s)).mgmt]
      exact hpending
    refine Fate.onEvent ?_
    dsimp only
    split
    · refine ((hanswered _).trans fate_reportHeartbeat).trans (fate_endPass ?_)
      rw [reportHeartbeat_mgmt]
      exact hnone _
    · exact (hanswered _).trans (fate_endPass (hnone _))

theorem fate_passTimeout (h : Core s) (he : Engaged (s.chan c)) :
    ∃ t, exec .passTimeout s = .next t ∧ Fate c s t := by
  have hpending := h.pendingSet_none (h.not_config he)
  refine ⟨_, rfl, ?_⟩
  split
  · exact .refl c s
  · rename_i k _
    have hcalm := ((calm_freeBus s).trans (calm_answerHost .error (if k.kind = .read then some 0xFF#8 else none) _)).trans
      (calm_record .passTimeout none none (some k.address) none _)
    refine Fate.onEvent (Fate.trans ?_ (fate_endPass ?_))
    · exact (fate_freeBus.trans (fate_answerHost _ _)).trans (.kept (kept_record c _ _ _ _ _ _))
    · rw [hcalm.mgmt]
      exact hpending

theorem fate_driveCompletion (h : Core s) (he : Engaged (s.chan c)) (hawake : Awake c s) :
    ∃ t, exec .driveCompletion s = .next t ∧ Fate c s t := by
  refine ⟨_, rfl, ?_⟩
  split
  · rename_i f _
    have hfreed : Fate c s (freeBus s) := fate_freeBus
    have hended : Fate c s ((if f.attached then creditCompletion f else id) (freeBus s)) := by
      split
      · exact hfreed.trans (fate_creditCompletion (s := freeBus s) he hawake.free)
      · exact hfreed
    refine (fate_endDrive hended ?_ (h.fault_of_transition he) f.channel).onEvent
    split
    · rw [(local_creditCompletion f (freeBus s)).ctl]
      rfl
    · rfl
  · exact .refl c s
  · exact .refl c s

theorem fate_driveTimeout (h : Core s) (he : Engaged (s.chan c)) (hawake : Awake c s) :
    ∃ t, exec .driveTimeout s = .next t ∧ Fate c s t := by
  refine ⟨_, rfl, ?_⟩
  split
  · rename_i f _
    have hfreed : Fate c s (recordChannel .driveTimeout f.channel f.value (freeBus s)) :=
      fate_freeBus.trans (fate_recordChannel _ _ _)
    have hended : Fate c s ((if f.attached then chargeTimeout f else id)
        (recordChannel .driveTimeout f.channel f.value (freeBus s))) := by
      split
      · exact hfreed.trans (fate_chargeTimeout (s := recordChannel .driveTimeout f.channel f.value (freeBus s))
          hawake.free)
      · exact hfreed
    refine (fate_endDrive hended ?_ (h.fault_of_transition he) f.channel).onEvent
    split
    · rw [(local_chargeTimeout f _).ctl]
      rfl
    · rfl
  · exact .refl c s
  · exact .refl c s

theorem fate_stallTimeout : ∃ t, exec .stallTimeout s = .next t ∧ Fate c s t := by
  refine ⟨_, rfl, ?_⟩
  split
  · exact .refl c s
  · exact ((fate_recordChannel _ _ _).trans (fate_answerHost _ _)).onEvent

theorem fate_stallReexamine (h : Core s) (hawake : Awake c s) :
    ∃ t, exec .stallReexamine s = .next t ∧ Fate c s t := by
  refine ⟨_, rfl, ?_⟩
  split
  · exact .refl c s
  · rename_i w hw
    exact (hawake.reexamine (h.lawful.heldRun w hw).1 w.channel).arbitrate.onEvent

/-- The row of an expiry or a head: nothing at the channel itself, and apart from it at another. -/
theorem fate_row {op : Chan → State → State} (k : Chan) (hown : op c s = s) (hother : c ≠ k → Apart c s (op k s)) :
    Fate c s (op k s) := by
  by_cases hk : c = k
  · subst hk
    rw [hown]
    exact .refl c s
  · exact (hother hk).fate

/-- The row that completes a transition is the report of its end. -/
theorem fate_complete {t : State} (h : Core s) (he : Engaged (s.chan c)) {m : Mode} (hm : m.isTransition = true)
    (ht : s.ctl.mode = m → s.noMarks = true → transitionReport s = t) :
    Fate c s (s.onEvent (s.ctl.mode == m && s.noMarks) t) := by
  unfold State.onEvent
  split
  · rename_i htaken
    simp only [Bool.and_eq_true, beq_iff_eq] at htaken
    obtain ⟨-, hmode, hmarks⟩ := htaken
    rw [← ht hmode hmarks]
    exact fate_transitionReport fun _ => h.fault_of_transition he (hmode ▸ hm)
  · exact .refl c s

/-! ### Every row but the tick and the ends of a mark and a space -/

/-- The rows set apart: the tick, the expiries of the channel's own train, and the CLEAR_FAULT of its fault. -/
def Plain (c : Chan) (s : State) (i : Instr) : Prop :=
  i ≠ .timestampTick ∧ i ≠ .markExpiry c ∧ i ≠ .spaceExpiry c ∧
    ∀ p, i = .clearFault p → chanOf (byteAt p 0) = some c → (s.chan c).state ≠ .fault

theorem exec_fate (i : Instr) (h : Core s) (he : Engaged (s.chan c)) (hi : Plain c s i) :
    ∃ t, exec i s = .next t ∧ Fate c s t := by
  obtain ⟨htick, hmark, hspace, hclear⟩ := hi
  have hpassive := he.passive
  have hawake : Awake c s := h.awake fun _ => ⟨hpassive.2.1, hpassive.2.2.2⟩
  have hconfig := h.not_config he
  have hrefused {t : State} (hm : takenIn .configOnly s.ctl.mode = true) : Fate c s t := absurd (eq_of_beq hm) hconfig
  have hrecovery : (s.chan c).state ≠ .recovering ∨ (s.chan c).recovery = none := .inl he.not_recovering
  cases i with
  | getInfo | getStatus | readFlags | resetDevice => exact fate_takeRequest rfl fun _ => .of_eq rfl (.inl rfl)
  | getChannel => exact fate_takeRequest rfl fun _ => .withChannel fun _ _ => fate_respond c _ _ s
  | readEvents | setEnables => exact fate_takeRequest rfl fun _ => .ite (fate_respond c _ _ s) (.of_eq rfl (.inl rfl))
  | setDevice | setChannel | clearChannel | start => exact fate_takeRequest rfl hrefused
  | resume => exact fate_takeRequest rfl fun hm => fate_begun h he (eq_of_beq hm)
  | stop p => exact fate_stop h he p
  | enterSafe p => exact fate_enterSafe p
  | clearFault p => exact fate_clearFault hawake (hclear p rfl)
  | purge p => exact fate_purge hawake p
  | queueWrite p => exact fate_queueWrite hawake p
  | badCommand frame => exact fate_badCommand frame
  | transactionOpen =>
    have hselect : Fate c s (setSelect true s) := .of_eq rfl (.inl rfl)
    exact ⟨_, rfl, .ite (.refl c s) (.ite (hselect.trans fate_openTransaction) hselect)⟩
  | transactionClose =>
    have hselect : Fate c s (setSelect false s) := .of_eq rfl (.inl rfl)
    exact ⟨_, rfl, .ite (.refl c s) (.ite (hselect.trans fate_closeTransaction) hselect)⟩
  | heldSetChannelAccept =>
    refine ⟨_, rfl, Fate.onEvent ?_⟩
    rw [acceptHeld_none (h.pendingSet_none hconfig)]
    exact (apart_arbitrate c s).fate
  | governedRead a =>
    refine ⟨_, rfl, ?_⟩
    split
    · exact .refl c s
    · exact (fate_governedReadArrives a _).onArrival
  | governedWrite a v =>
    refine ⟨_, rfl, ?_⟩
    split
    · exact .refl c s
    · exact (hawake.governedWriteArrives a v _).onArrival
  | passThroughArrival a data => exact ⟨_, rfl, (fate_passArrives a data).onArrival⟩
  | invalidCycle a => exact ⟨_, rfl, (fate_invalidArrives a).onArrival⟩
  | hostCycleInReset kind a v => exact ⟨_, rfl, (fate_arrivesInReset (strobesOf kind a v)).onArrival⟩
  | hostCycleEnd => exact ⟨_, rfl, .ite fate_strobesReleased (.ite (.of_eq rfl (.inl rfl)) (.refl c s))⟩
  | passThroughIssue | driveIssue => exact ⟨_, rfl, (apart_arbitrate c s).fate.onEvent⟩
  | passThroughCompletion dd => exact fate_passThroughCompletion h he dd
  | passTimeout => exact fate_passTimeout h he
  | driveCompletion => exact fate_driveCompletion h he hawake
  | driveTimeout => exact fate_driveTimeout h he hawake
  | stallTimeout => exact fate_stallTimeout
  | stallReexamine => exact fate_stallReexamine h hawake
  | holdHeadTake k => exact ⟨_, rfl, fate_row k (holdHeadTakes_skip fun _ => hpassive) (apart_holdHeadTakes · hawake.free)⟩
  | trainHeadTake k =>
    exact ⟨_, rfl, fate_row k (trainHeadTakes_skip fun _ => hpassive) (apart_trainHeadTakes · hawake.free)⟩
  | minHoldExpiry k => exact ⟨_, rfl, fate_row k (minHoldExpires_skip he) (apart_minHoldExpires · hawake.free)⟩
  | maxHoldExpiry k =>
    exact ⟨_, rfl, fate_row k (maxHoldExpires_skip fun _ => hpassive) (apart_maxHoldExpires · hawake.free)⟩
  | holdRecoveryEnd k =>
    exact ⟨_, rfl, fate_row k (recoveryEnds_skip hrecovery).1 (apart_holdRecoveryEnds · hawake.free)⟩
  | markExpiry k => exact ⟨_, rfl, (apart_markExpires (fun hk : c = k => hmark (by rw [hk])) hawake.free).fate⟩
  | spaceExpiry k => exact ⟨_, rfl, (apart_spaceExpires (fun hk : c = k => hspace (by rw [hk])) hawake.free).fate⟩
  | pauseExpiry k => exact ⟨_, rfl, fate_row k (pauseExpires_skip fun _ => hpassive) (apart_pauseExpires · hawake.free)⟩
  | trainRecoveryEnd k =>
    exact ⟨_, rfl, fate_row k (recoveryEnds_skip hrecovery).2 (apart_trainRecoveryEnds · hawake.free)⟩
  | grant g => exact ⟨_, rfl, (apart_passToken hawake.free g).arbitrate.fate.onEvent⟩
  | settleExpiry k => exact ⟨_, rfl, .kept (kept_settleExpires k)⟩
  | filterExpiry k =>
    by_cases hk : c = k
    · subst hk
      exact ⟨_, rfl, fate_filterExpires⟩
    · exact ⟨_, rfl, (apart_filterExpires hk hawake.free).fate⟩
  | senseChange k high =>
    have hpin : Fate c s { s with pins := { s.pins with sense := s.pins.sense.set k.val high } } := .of_eq rfl (.inl rfl)
    exact ⟨_, rfl, .ite (hpin.trans (.kept (kept_modComparison c k _ _))) hpin⟩
  | heartbeatExpiry => exact ⟨_, rfl, fate_heartbeatExpires⟩
  | safeLineFall =>
    have hpin : Fate c s (setSafePin false s) := .of_eq rfl (.inl rfl)
    exact ⟨_, rfl, .ite (hpin.trans fate_actOnSafeLow).arbitrate hpin⟩
  | safeLineRise | clkStops => exact ⟨_, rfl, .of_eq rfl (.inl rfl)⟩
  | resetAssert => exact ⟨_, rfl, .ite (.refl c s) (.away nofun (fun _ => .inr rfl) fun _ => rfl)⟩
  | supplyFall => exact ⟨_, rfl, .ite (.away nofun (fun _ => .inr rfl) fun _ => rfl) (.refl c s)⟩
  | resetRelease | supplyWithinRange => exact ⟨_, rfl, hawake.endHold rfl rfl⟩
  | enteringRunComplete => exact ⟨_, rfl, fate_complete h he rfl fun hm hn => by simp [transitionReport, hm, hn]⟩
  | enteringSafeComplete => exact ⟨_, rfl, fate_complete h he rfl fun hm hn => by simp [transitionReport, hm, hn]⟩
  | enteringConfigComplete => exact ⟨_, rfl, fate_complete h he rfl fun hm hn => by simp [transitionReport, hm, hn]⟩
  | timestampTick => exact absurd rfl htick
  | clkRunsAgain => exact fate_clkRunsAgain h hawake
  | syncByteSent | responseCrcSent => exact ⟨_, rfl, Fate.onEvent (.of_eq rfl (.inl rfl))⟩

end

end Sys2Proof.Machine
end

section
/-! O11, O12 and O13: how a fault is left, how a hold keeps its value, and how the marks of a train run (R16, R47,
R65 to R67). -/

namespace Sys2Proof.Machine

section
variable {c : Chan} {s : State}

/-! ### The ends of a mark and of a space (R65, R66) -/

/-- A field that says nothing of the pending drive. -/
theorem Apart.field {t : State} {α : Type} (h : Apart c s t) (φ : Channel → α)
    (hφ : ∀ x : Channel, φ { x with slot := none } = φ x) : φ (t.chan c) = φ (s.chan c) := by
  rcases h.chan with e | ⟨-, e⟩ <;> rw [e]
  exact hφ _

theorem leaveMark_chan (d : Descriptor) (f : Channel → Channel) :
    (leaveMark c d f s).chan c =
      { f { s.chan c with target := some d.rest, markTimer := none } with slot := some d.rest } := by
  rw [leaveMark, requestDrive, modChan_chan_self, modChan_chan_self]

/-- The end of a mark: RECOVERING, its timer not started, or SPACE with one mark fewer, its timer not started. -/
theorem endMark_chan (d : Descriptor) :
    (((endMark c d s).chan c).state = .recovering ∧ ((endMark c d s).chan c).recovery = none) ∨
      (((endMark c d s).chan c).state = .space ∧ ((endMark c d s).chan c).spaceTimer = none ∧
        ((endMark c d s).chan c).marks + 1 = (s.chan c).marks) := by
  unfold endMark
  dsimp only
  split
  · rw [leaveMark_chan]
    exact .inl ⟨rfl, rfl⟩
  · split
    · rw [leaveMark_chan]
      exact .inl ⟨rfl, rfl⟩
    · rename_i hmarks
      rw [leaveMark_chan]
      exact .inr ⟨rfl, rfl, by dsimp only; omega⟩

theorem markExpires_outcome (c : Chan) (s : State) :
    markExpires c s = s ∨
      (s.chan c).state = .mark ∧ (s.chan c).markTimer = some 0 ∧ (markExpires c s).ctl.mode = s.ctl.mode ∧
        ((((markExpires c s).chan c).state = .recovering ∧ ((markExpires c s).chan c).recovery = none) ∨
          (((markExpires c s).chan c).state = .space ∧ ((markExpires c s).chan c).spaceTimer = none ∧
            ((markExpires c s).chan c).marks + 1 = (s.chan c).marks)) := by
  unfold markExpires
  rcases onTrain_cases c (fun x => x.state == .mark && isDue x.markTimer) (fun d _ => endMark c d) s with
    e | ⟨d, p, -, -, -, hcondition, e⟩
  · exact .inl e
  · simp only [Bool.and_eq_true, beq_iff_eq, isDue] at hcondition
    have hchoice := apart_arbitrate c (endMark c d s)
    rw [e, hchoice.field (·.state) fun _ => rfl, hchoice.field (·.recovery) fun _ => rfl,
      hchoice.field (·.spaceTimer) fun _ => rfl, hchoice.field (·.marks) fun _ => rfl]
    refine .inr ⟨hcondition.1, hcondition.2, hchoice.mode.trans ?_, endMark_chan d⟩
    rw [(local_endMark c d s).ctl]

theorem spaceExpires_outcome (c : Chan) (s : State) :
    spaceExpires c s = s ∨
      (s.chan c).state = .space ∧ (s.chan c).spaceTimer = some 0 ∧ (spaceExpires c s).ctl.mode = s.ctl.mode ∧
        ((spaceExpires c s).chan c).state = .mark ∧ ((spaceExpires c s).chan c).marks = (s.chan c).marks ∧
        ((spaceExpires c s).chan c).trainCount = (s.chan c).trainCount := by
  unfold spaceExpires
  rcases onTrain_cases c (fun x => x.state == .space && isDue x.spaceTimer) (fun _ p => endSpace c p) s with
    e | ⟨d, p, -, -, -, hcondition, e⟩
  · exact .inl e
  · simp only [Bool.and_eq_true, beq_iff_eq, isDue] at hcondition
    have hchoice := apart_arbitrate c (endSpace c p s)
    rw [e, hchoice.field (·.state) fun _ => rfl, hchoice.field (·.marks) fun _ => rfl,
      hchoice.field (·.trainCount) fun _ => rfl]
    refine .inr ⟨hcondition.1, hcondition.2, hchoice.mode.trans ?_, ?_⟩
    · rw [(local_endSpace c p s).ctl]
    · rw [endSpace, requestDrive, modChan_chan_self, modChan_chan_self]
      exact ⟨rfl, rfl, rfl⟩

/-- What becomes of a channel where its own expiries may come: as in `Fate`, or its train goes on from MARK to SPACE, or
from SPACE to MARK. -/
inductive Turn (c : Chan) (s t : State) : Prop where
  | fate (h : Fate c s t)
  | spaced (hs : (s.chan c).state = .mark) (hdue : (s.chan c).markTimer = some 0) (ht : (t.chan c).state = .space)
      (hmarks : (t.chan c).marks + 1 = (s.chan c).marks) (hmode : t.ctl.mode = s.ctl.mode)
  | marked (hs : (s.chan c).state = .space) (hdue : (s.chan c).spaceTimer = some 0) (ht : (t.chan c).state = .mark)
      (hmarks : (t.chan c).marks = (s.chan c).marks) (hcount : (t.chan c).trainCount = (s.chan c).trainCount)
      (hmode : t.ctl.mode = s.ctl.mode)

theorem Turn.trans {t u : State} (h : Turn c s t) (k : Fate c t u) : Turn c s u := by
  cases h with
  | fate h => exact .fate (h.trans k)
  | spaced hs hdue ht hmarks hmode =>
    cases k with
    | kept k =>
      exact .spaced hs hdue (k.record.state.trans ht) (by rw [k.record.marks, hmarks]) (k.mode.trans hmode)
    | faulted hu hconfig => exact .fate (.faulted hu fun h => hconfig (hmode.trans h))
    | ended _ hu humode => exact .fate (.ended (.inl hs) hu (humode.trans hmode))
    | away hrun _ hconfig =>
      exact .fate (.away hrun (fun h => nomatch hs.symm.trans h) fun h => hconfig (hmode.trans h))
  | marked hs hdue ht hmarks hcount hmode =>
    cases k with
    | kept k =>
      exact .marked hs hdue (k.record.state.trans ht) (k.record.marks.trans hmarks) (k.record.trainCount.trans hcount)
        (k.mode.trans hmode)
    | faulted hu hconfig => exact .fate (.faulted hu fun h => hconfig (hmode.trans h))
    | ended _ hu humode => exact .fate (.ended (.inr hs) hu (humode.trans hmode))
    | away hrun _ hconfig =>
      exact .fate (.away hrun (fun h => nomatch hs.symm.trans h) fun h => hconfig (hmode.trans h))

/-- What comes before apart from the channel changes none of this. -/
theorem Turn.after {t u : State} (h : Apart c s t) (k : Turn c t u) : Turn c s u := by
  have hstate : (t.chan c).state = (s.chan c).state := h.field (·.state) fun _ => rfl
  have hmarks : (t.chan c).marks = (s.chan c).marks := h.field (·.marks) fun _ => rfl
  have hcount : (t.chan c).trainCount = (s.chan c).trainCount := h.field (·.trainCount) fun _ => rfl
  have hmarkTimer : (t.chan c).markTimer = (s.chan c).markTimer := h.field (·.markTimer) fun _ => rfl
  have hspaceTimer : (t.chan c).spaceTimer = (s.chan c).spaceTimer := h.field (·.spaceTimer) fun _ => rfl
  cases k with
  | fate k => exact .fate (h.fate.trans k)
  | spaced ht hdue hu hmarks' hmode =>
    exact .spaced (hstate ▸ ht) (hmarkTimer ▸ hdue) hu (hmarks ▸ hmarks') (hmode.trans h.mode)
  | marked ht hdue hu hmarks' hcount' hmode =>
    exact .marked (hstate ▸ ht) (hspaceTimer ▸ hdue) hu (hmarks'.trans hmarks) (hcount'.trans hcount) (hmode.trans h.mode)

/-- The channel comes to no state that takes heads, in RUN. -/
theorem Turn.passive {t : State} (h : Turn c s t) (he : Engaged (s.chan c)) (hrun : t.ctl.mode = .run) :
    Passive (t.chan c).state := by
  have of_state {st : ChanState} (ht : (t.chan c).state = st) (hst : Passive st) : Passive (t.chan c).state := ht ▸ hst
  cases h with
  | fate h =>
    cases h with
    | kept h => exact of_state h.record.state he.passive
    | faulted h _ => exact of_state h ⟨nofun, nofun, nofun, nofun⟩
    | ended _ h _ => exact of_state h ⟨nofun, nofun, nofun, nofun⟩
    | away hmode _ _ => exact absurd hrun hmode
  | spaced _ _ h _ _ => exact of_state h ⟨nofun, nofun, nofun, nofun⟩
  | marked _ _ h _ _ _ => exact of_state h ⟨nofun, nofun, nofun, nofun⟩

/-! ### The tick (R155) -/

/-- The rows between the ends of a mark and of a space and the feedback, with nothing to do. -/
theorem trainTail_skip (hstate : Passive (s.chan c).state)
    (hrecovery : (s.chan c).state ≠ .recovering ∨ (s.chan c).recovery = none) :
    trainRecoveryEnds c (pauseExpires c s) = s := by
  rw [pauseExpires_skip fun _ => hstate, (recoveryEnds_skip hrecovery).2]

theorem turn_trainExpiries (he : Engaged (s.chan c)) :
    Turn c s (trainRecoveryEnds c (pauseExpires c (spaceExpires c (markExpires c s)))) := by
  rcases markExpires_outcome c s with e | ⟨hs, hdue, hmode, ⟨ht, hrecovery⟩ | ⟨ht, htimer, hmarks⟩⟩
  · rw [e]
    rcases spaceExpires_outcome c s with e' | ⟨hs, hdue, hmode, ht, hmarks, hcount⟩
    · rw [e', trainTail_skip he.passive (.inl he.not_recovering)]
      exact .fate (.refl c s)
    · rw [trainTail_skip (by rw [ht]; exact ⟨nofun, nofun, nofun, nofun⟩) (.inl (by rw [ht]; nofun))]
      exact .marked hs hdue ht hmarks hcount hmode
  · have hskip : spaceExpires c (markExpires c s) = markExpires c s := onTrain_skip fun _ => by simp [ht]
    rw [hskip, trainTail_skip (by rw [ht]; exact ⟨nofun, nofun, nofun, nofun⟩) (.inr hrecovery)]
    exact .fate (.ended (.inl hs) ht hmode)
  · have hskip : spaceExpires c (markExpires c s) = markExpires c s := onTrain_skip fun _ => by simp [htimer, isDue]
    rw [hskip, trainTail_skip (by rw [ht]; exact ⟨nofun, nofun, nofun, nofun⟩) (.inl (by rw [ht]; nofun))]
    exact .spaced hs hdue ht hmarks hmode

theorem turn_takeDueOf (he : Engaged (s.chan c)) : Turn c s (takeDueOf c s) := by
  unfold takeDueOf
  rw [minHoldExpires_skip he, maxHoldExpires_skip fun _ => he.passive, (recoveryEnds_skip (.inl he.not_recovering)).1]
  exact ((turn_trainExpiries he).trans (.kept (kept_settleExpires c))).trans fate_filterExpires

theorem Engaged.apart {t : State} (he : Engaged (s.chan c)) (h : Apart c s t) : Engaged (t.chan c) := by
  unfold Engaged
  rw [h.field (·.state) fun _ => rfl, h.field (·.minHold) fun _ => rfl]
  exact he

theorem turn_takeDue (h : Core s) (he : Engaged (s.chan c)) : Turn c s (takeDue s) := by
  obtain ⟨ahead, behind, hahead, hbehind, hfold⟩ := foldl_allChans takeDueOf c s
  have hbefore : Apart c s (ahead.foldl (fun u k => takeDueOf k u) s) :=
    apart_foldl apart_takeDueOf hahead (h.requested_none fun _ => he.passive.2.1)
  have hcore : Core (ahead.foldl (fun u k => takeDueOf k u) s) := core_foldl (fun k _ hu => core_takeDueOf k hu) ahead h
  have hown := Turn.after hbefore (turn_takeDueOf (he.apart hbefore))
  have hafter := apart_foldl (op := takeDueOf) apart_takeDueOf hbehind
    ((core_takeDueOf c hcore).requested_none fun hrun => (hown.passive he hrun).2.1)
  rw [takeDue, hfold]
  exact (hown.trans hafter.fate).trans fate_heartbeatExpires

theorem apart_takeAppended (h : Core s) (hstate : s.ctl.mode = .run → Passive (s.chan c).state) :
    Apart c s (takeAppended s) := by
  obtain ⟨ahead, behind, hahead, hbehind, hfold⟩ := foldl_allChans takeAppendedOf c s
  have hfree : (s.chan c).requested = none := h.requested_none fun hrun => (hstate hrun).2.1
  have hbefore : Apart c s (ahead.foldl (fun u k => takeAppendedOf k u) s) :=
    apart_foldl apart_takeAppendedOf hahead hfree
  have hskip : takeAppendedOf c (ahead.foldl (fun u k => takeAppendedOf k u) s) =
      ahead.foldl (fun u k => takeAppendedOf k u) s := by
    have hpassive (hrun : (ahead.foldl (fun u k => takeAppendedOf k u) s).ctl.mode = .run) :
        Passive ((ahead.foldl (fun u k => takeAppendedOf k u) s).chan c).state := by
      rw [hbefore.kept.record.state]
      exact hstate (hbefore.mode.symm.trans hrun)
    rw [takeAppendedOf, holdHeadTakes_skip hpassive, holdHeadTakes_skip hpassive, trainHeadTakes_skip hpassive]
  rw [takeAppended, hfold, hskip]
  exact hbefore.trans (apart_foldl apart_takeAppendedOf hbehind (hbefore.requested.trans hfree))

theorem kept_advanceTime : Kept c s (advanceTime s) := by
  refine ⟨by rw [advanceTime_ctl], ?_, fun f hf _ => .inl ?_⟩
  · rw [advanceTime_chan, Channel.tick]
    exact ⟨rfl, rfl, rfl, rfl, rfl, fun hsome => by simpa [tickTimer] using hsome, id⟩
  · rwa [advanceTime_down] at hf

theorem turn_tick (h : Core s) (he : Engaged (s.chan c)) :
    Turn c s (advanceTime (takeAppended (takeDue s))) := by
  have hdue := turn_takeDue h he
  have hheads : Apart c (takeDue s) (takeAppended (takeDue s)) :=
    apart_takeAppended (core_takeDue h) (hdue.passive he)
  exact (hdue.trans hheads.fate).trans (.kept kept_advanceTime)

/-! ### Every row -/

/-- Every row but the CLEAR_FAULT of the channel's own fault, with the row that a train goes on by. -/
theorem exec_turn {i : Instr} {t : State} (hexec : exec i s = .next t) (h : Core s) (he : Engaged (s.chan c))
    (hclear : ∀ p, i = .clearFault p → chanOf (byteAt p 0) = some c → (s.chan c).state ≠ .fault) :
    Fate c s t ∨ Turn c s t ∧ (i = .timestampTick ∨ i = .markExpiry c ∧ (s.chan c).state = .mark ∨
      i = .spaceExpiry c ∧ (s.chan c).state = .space) := by
  by_cases htick : i = .timestampTick
  · subst htick
    cases hexec
    refine .inr ⟨?_, .inl rfl⟩
    rcases onEvent_cases s (advanceTime (takeAppended (takeDue s))) true with e | e <;> rw [e]
    · exact turn_tick h he
    · exact .fate (.refl c s)
  by_cases hmark : i = .markExpiry c
  · subst hmark
    cases hexec
    rcases markExpires_outcome c s with e | ⟨hs, hdue, hmode, ⟨ht, -⟩ | ⟨ht, -, hmarks⟩⟩
    · exact .inl (e.symm ▸ .refl c s)
    · exact .inl (.ended (.inl hs) ht hmode)
    · exact .inr ⟨.spaced hs hdue ht hmarks hmode, .inr (.inl ⟨rfl, hs⟩)⟩
  by_cases hspace : i = .spaceExpiry c
  · subst hspace
    cases hexec
    rcases spaceExpires_outcome c s with e | ⟨hs, hdue, hmode, ht, hmarks, hcount⟩
    · exact .inl (e.symm ▸ .refl c s)
    · exact .inr ⟨.marked hs hdue ht hmarks hcount hmode, .inr (.inr ⟨rfl, hs⟩)⟩
  obtain ⟨t', ht', hfate⟩ := exec_fate i h he ⟨htick, hmark, hspace, hclear⟩
  cases hexec.symm.trans ht'
  exact .inl hfate

/-- The CLEAR_FAULT that is taken is one of RUN or SAFE. -/
theorem clearFault_taken {p : List Byte} {t : State} (hexec : exec (.clearFault p) s = .next t)
    (hs : (s.chan c).state = .fault) (ht : (t.chan c).state ≠ .fault) : s.ctl.mode = .run ∨ s.ctl.mode = .safe := by
  change execClearFault p s = _ at hexec
  rw [execClearFault] at hexec
  cases hexec
  rcases takeRequest_cases 1 .runOrSafe p s _ with e | ⟨-, r, e⟩ | ⟨-, -, -, hmode, -⟩
  · rw [e] at ht
    exact absurd hs ht
  · rw [e] at ht
    exact absurd hs ht
  · simpa [takenIn] using hmode

/-- Settles O11: of a channel in FAULT every other row leaves it there, or brings the part to CONFIG. -/
theorem faultIsLeftOnlyByItsExits : Obligations.FaultIsLeftOnlyByItsExits := by
  intro i s t c hsound hexec hs ht
  by_cases hclear : ∃ p, i = .clearFault p ∧ chanOf (byteAt p 0) = some c
  · obtain ⟨p, rfl, hc⟩ := hclear
    exact .inr ⟨clearFault_taken hexec hs ht, p, rfl, hc⟩
  · have hfate : Fate c s t := by
      rcases exec_turn (c := c) hexec hsound.core (.inr (.inr (.inr hs))) fun p hi hc => absurd ⟨p, hi, hc⟩ hclear with
        hfate | ⟨hturn, -⟩
      · exact hfate
      · cases hturn with
        | fate hfate => exact hfate
        | spaced hmark => exact nomatch hs.symm.trans hmark
        | marked hspace => exact nomatch hs.symm.trans hspace
    exact .inl ((hfate.fault hs).resolve_left ht)

/-- Settles O12: the min-hold expiry is not due, and no other row moves a hold but into FAULT or with the part out of
RUN. -/
theorem minHoldIsKept : Obligations.MinHoldIsKept := by
  intro i s t c k hsound hexec hs hmin hslot
  have hfate : Fate c s t := by
    rcases exec_turn (c := c) hexec hsound.core (.inl ⟨hs, k, hmin⟩) fun _ _ _ hfault => (nomatch hs.symm.trans hfault) with
      hfate | ⟨hturn, -⟩
    · exact hfate
    · cases hturn with
      | fate hfate => exact hfate
      | spaced hmark => exact nomatch hs.symm.trans hmark
      | marked hspace => exact nomatch hs.symm.trans hspace
  cases hfate with
  | kept h =>
    refine .inl ⟨h.record.state.trans hs, h.record.target, h.record.slot hslot, h.record.minHold (by rw [hmin]; rfl),
      fun f hf hc => ?_⟩
    rw [inFlight_eq_some] at hf ⊢
    rcases h.flight f hf hc with hbefore | hpending
    · exact hbefore
    · rw [hslot] at hpending
      cases hpending
  | faulted h _ => exact .inr (.inl h)
  | ended htrain _ _ => rcases htrain with h | h <;> exact nomatch hs.symm.trans h
  | away h _ _ => exact .inr (.inr h)

/-- The marks are counted in a train alone. -/
theorem Core.marks_iff (h : Core s) : (s.chan c).marks ≠ 0 ↔ (s.chan c).state = .mark ∨ (s.chan c).state = .space := by
  cases hd : (s.chan c).desc with
  | none =>
    rw [(h.lawful.slots c).unconfigured hd]
    simp [Channel.empty]
  | some d => exact (h.lawful.recordLaw hd).field.2.2.2.1

/-- The conclusion of O13 about the records before and after. -/
def MarksRun (i : Instr) (c : Chan) (x y : Channel) : Prop :=
  y.marks ≤ x.marks ∧ (y.marks = 0 → y.state ≠ .mark ∧ y.state ≠ .space) ∧
    (y.state = .space → x.state = .mark →
      (i = .markExpiry c ∨ (i = .timestampTick ∧ x.markTimer = some 0)) ∧ y.marks + 1 = x.marks) ∧
    (y.state = .mark → y.marks = x.marks ∧ y.trainCount = x.trainCount ∧
      (x.state = .space → i = .spaceExpiry c ∨ (i = .timestampTick ∧ x.spaceTimer = some 0)))

theorem marksRun_of_ended {i : Instr} {x y : Channel} (hmarks : y.marks = 0)
    (hstate : ¬ (y.state = .mark ∨ y.state = .space)) : MarksRun i c x y := by
  have hmark : y.state ≠ .mark := fun h => hstate (.inl h)
  have hspace : y.state ≠ .space := fun h => hstate (.inr h)
  exact ⟨hmarks ▸ Nat.zero_le _, fun _ => ⟨hmark, hspace⟩, fun h => absurd h hspace, fun h => absurd h hmark⟩

/-- A channel in a train, in RUN, that was not moved by its own expiries. -/
theorem marksRun_of_fate {i : Instr} {t : State} (h : Fate c s t)
    (htrain : (t.chan c).state = .mark ∨ (t.chan c).state = .space) (hrun : t.ctl.mode = .run)
    (hmarks : (t.chan c).marks ≠ 0) : MarksRun i c (s.chan c) (t.chan c) := by
  cases h with
  | kept h =>
    refine ⟨h.record.marks.le, fun hzero => absurd hzero hmarks, fun ht hm => ?_,
      fun ht => ⟨h.record.marks, h.record.trainCount, fun hsp => ?_⟩⟩
    · exact nomatch (h.record.state.symm.trans ht).symm.trans hm
    · exact nomatch (h.record.state.symm.trans ht).symm.trans hsp
  | faulted h _ => rcases htrain with h' | h' <;> exact nomatch h.symm.trans h'
  | ended _ h _ => rcases htrain with h' | h' <;> exact nomatch h.symm.trans h'
  | away h _ _ => exact absurd hrun h

/-- Settles O13: a train goes on by its own expiries alone, and every other row leaves its marks or ends it. -/
theorem marksOfATrainNeverRise : Obligations.MarksOfATrainNeverRise := by
  intro i s t c hsound hexec hs
  change MarksRun i c (s.chan c) (t.chan c)
  have hcore := (exec_sound hexec hsound).core
  have he : Engaged (s.chan c) := by
    rcases hs with hs | hs
    · exact .inr (.inl hs)
    · exact .inr (.inr (.inl hs))
  by_cases htrain : (t.chan c).state = .mark ∨ (t.chan c).state = .space
  swap
  · exact marksRun_of_ended (not_not.mp fun hmarks => htrain (hcore.marks_iff.mp hmarks)) htrain
  have hmarks : (t.chan c).marks ≠ 0 := hcore.marks_iff.mpr htrain
  have hrun : t.ctl.mode = .run := by
    rcases hcore.cadence_or_fault (c := c) (by rcases htrain with h | h <;> simp [Engaged, h]) with hrun | hfault
    · exact hrun
    · rcases htrain with h | h <;> rw [hfault] at h <;> cases h
  have hclear : ∀ p, i = .clearFault p → chanOf (byteAt p 0) = some c → (s.chan c).state ≠ .fault := by
    intro _ _ _ hfault
    rcases hs with h | h <;> exact nomatch hfault.symm.trans h
  rcases exec_turn hexec hsound.core he hclear with hfate | ⟨hturn, hi⟩
  · exact marksRun_of_fate hfate htrain hrun hmarks
  · cases hturn with
    | fate hfate => exact marksRun_of_fate hfate htrain hrun hmarks
    | spaced hm hdue ht hfewer _ =>
      refine ⟨by omega, fun hzero => absurd hzero hmarks, fun _ _ => ⟨?_, hfewer⟩, fun h => (nomatch ht.symm.trans h)⟩
      rcases hi with hi | ⟨hi, -⟩ | ⟨-, hsp⟩
      · exact .inr ⟨hi, hdue⟩
      · exact .inl hi
      · exact nomatch hm.symm.trans hsp
    | marked hsp hdue ht hsame hcount _ =>
      refine ⟨hsame.le, fun hzero => absurd hzero hmarks, fun h => (nomatch ht.symm.trans h),
        fun _ => ⟨hsame, hcount, fun _ => ?_⟩⟩
      rcases hi with hi | ⟨-, hm⟩ | ⟨hi, -⟩
      · exact .inr ⟨hi, hdue⟩
      · exact nomatch hm.symm.trans hsp
      · exact .inl hi

end

end Sys2Proof.Machine
end

section
/-! O32, the expiries before a tick (R155, notes/assumptions/5.md): each one, taken when it is due, spends its timer,
and no operation of an event brings another timer to its end. So none is left due. -/

namespace Sys2Proof.Machine

/-! ### Commands in a row -/

theorem Leads.append {l m : List Instr} {s t u : State} (h : Leads l s t) (k : Leads m t u) : Leads (l ++ m) s u := by
  induction l generalizing s with
  | nil =>
    obtain rfl : t = s := h
    exact k
  | cons i l ih =>
    obtain ⟨v, hexec, hrest⟩ := h
    exact ⟨v, hexec, ih hrest⟩

/-- The same commands for each channel of a list. -/
theorem Leads.foldl {rows : Chan → List Instr} {op : Chan → State → State} (h : ∀ c s, Leads (rows c) s (op c s))
    (l : List Chan) (s : State) : Leads (l.flatMap rows) s (l.foldl (fun t c => op c t) s) := by
  induction l generalizing s with
  | nil => exact rfl
  | cons c l ih => exact (h c s).append (ih _)

theorem foldl_skip {op : Chan → State → State} {s : State} (h : ∀ c, op c s = s) (l : List Chan) :
    l.foldl (fun t c => op c t) s = s := by
  induction l with
  | nil => rfl
  | cons c l ih => rw [List.foldl_cons, h c, ih]

/-- The rows of the expiries of channel `c`, as a tick takes them. -/
def expiriesOf (c : Chan) : List Instr :=
  [.minHoldExpiry c, .maxHoldExpiry c, .holdRecoveryEnd c, .markExpiry c, .spaceExpiry c, .pauseExpiry c,
    .trainRecoveryEnd c, .settleExpiry c, .filterExpiry c]

theorem leads_takeDueOf (c : Chan) (s : State) : Leads (expiriesOf c) s (takeDueOf c s) :=
  ⟨_, rfl, _, rfl, _, rfl, _, rfl, _, rfl, _, rfl, _, rfl, _, rfl, _, rfl, rfl⟩

theorem leads_takeDue (s : State) : Leads (allChans.flatMap expiriesOf ++ [.heartbeatExpiry]) s (takeDue s) :=
  (Leads.foldl leads_takeDueOf allChans s).append ⟨_, rfl, rfl⟩

/-- The rows of the head takes of channel `c`, as a tick takes them. -/
def takesOf (c : Chan) : List Instr := [.holdHeadTake c, .holdHeadTake c, .trainHeadTake c]

theorem leads_takeAppendedOf (c : Chan) (s : State) : Leads (takesOf c) s (takeAppendedOf c s) :=
  ⟨_, rfl, _, rfl, _, rfl, rfl⟩

theorem leads_takeAppended (s : State) : Leads (allChans.flatMap takesOf) s (takeAppended s) :=
  Leads.foldl leads_takeAppendedOf allChans s

/-! ### No timer due -/

/-- None of the timers of a channel has had all its ticks. -/
structure Undue (x : Channel) : Prop where
  minHold : x.minHold ≠ some 0
  maxHold : x.maxHold ≠ some 0
  markTimer : x.markTimer ≠ some 0
  spaceTimer : x.spaceTimer ≠ some 0
  pauseTimer : x.pauseTimer ≠ some 0
  recovery : x.recovery ≠ some 0
  settle : x.cmp.bind (·.settle) ≠ some 0
  filter : x.cmp.bind (·.filter) ≠ some 0

theorem Fresh.undue {x y : Channel} (h : Fresh x y) (hx : Undue x) : Undue y :=
  ⟨hx.minHold ∘ h.minHold, hx.maxHold ∘ h.maxHold, hx.markTimer ∘ h.markTimer, hx.spaceTimer ∘ h.spaceTimer,
    hx.pauseTimer ∘ h.pauseTimer, hx.recovery ∘ h.recovery, hx.settle ∘ h.settle, hx.filter ∘ h.filter⟩

theorem noneDue_iff {s : State} : NoneDue s ↔ s.ctl.heartbeat ≠ some 0 ∧ ∀ c, Undue (s.chan c) := by
  refine and_congr_right fun _ => forall_congr' fun c => ⟨?_, ?_⟩
  · rintro ⟨hmin, hmax, hmark, hspace, hpause, hrecovery, hcmp⟩
    refine ⟨hmin, hmax, hmark, hspace, hpause, hrecovery, fun h => ?_, fun h => ?_⟩ <;>
      obtain ⟨k, hk, hdue⟩ := Option.bind_eq_some_iff.mp h
    · exact (hcmp k hk).1 hdue
    · exact (hcmp k hk).2 hdue
  · intro h
    refine ⟨h.minHold, h.maxHold, h.markTimer, h.spaceTimer, h.pauseTimer, h.recovery,
      fun k hk => ⟨fun hdue => ?_, fun hdue => ?_⟩⟩
    · exact h.settle (by rw [hk]; exact hdue)
    · exact h.filter (by rw [hk]; exact hdue)

section
variable {c : Chan} {s : State}

theorem isDue_false {t : Option Nat} (h : t ≠ some 0) : isDue t = false := beq_eq_false_iff_ne.mpr h

/-- With no timer due, no expiry is taken. -/
theorem takeDueOf_skip (h : Undue (s.chan c)) : takeDueOf c s = s := by
  have hmin : minHoldExpires c s = s := onHold_skip fun _ => by simp [isDue_false h.minHold]
  have hmax : maxHoldExpires c s = s := onHold_skip fun _ => by simp [maxHoldDue, isDue_false h.maxHold]
  have hhold : holdRecoveryEnds c s = s := onHold_skip fun _ => by simp [isDue_false h.recovery]
  have hmark : markExpires c s = s := onTrain_skip fun _ => by simp [isDue_false h.markTimer]
  have hspace : spaceExpires c s = s := onTrain_skip fun _ => by simp [isDue_false h.spaceTimer]
  have hpause : pauseExpires c s = s := onTrain_skip fun _ => by simp [isDue_false h.pauseTimer]
  have htrain : trainRecoveryEnds c s = s := onTrain_skip fun _ => by simp [isDue_false h.recovery]
  have hsettle : settleExpires c s = s := by simp [settleExpires, State.onEvent, isDue_false h.settle]
  have hfilter : filterExpires c s = s := by simp [filterExpires, State.onEvent, isDue_false h.filter]
  rw [takeDueOf, hmin, hmax, hhold, hmark, hspace, hpause, htrain, hsettle, hfilter]

theorem takeDue_skip (h : NoneDue s) : takeDue s = s := by
  obtain ⟨hheartbeat, hundue⟩ := noneDue_iff.mp h
  rw [takeDue, foldl_skip fun c => takeDueOf_skip (hundue c)]
  simp [heartbeatExpires, State.onEvent, isDue_false hheartbeat]

end

/-! ### What an event leaves of the timers of every channel -/

/-- `t` comes from `s` with the mode controller, the pins and the descriptors as they were, and with no timer come to
its end. -/
structure Timely (s t : State) : Prop where
  ctl : t.ctl = s.ctl
  pins : t.pins = s.pins
  desc : ∀ k, (t.chan k).desc = (s.chan k).desc
  fresh : ∀ k, Fresh (s.chan k) (t.chan k)

theorem Timely.refl (s : State) : Timely s s := ⟨rfl, rfl, fun _ => rfl, fun _ => .refl _⟩

theorem Timely.trans {s t u : State} (h : Timely s t) (k : Timely t u) : Timely s u :=
  ⟨k.ctl.trans h.ctl, k.pins.trans h.pins, fun j => (k.desc j).trans (h.desc j), fun j => (h.fresh j).trans (k.fresh j)⟩

theorem Timely.live {s t : State} (h : Timely s t) (hlive : s.live = true) : t.live = true :=
  (live_of_pins h.pins).trans hlive

theorem fresh_arbitrate (s : State) (k : Chan) : Fresh (s.chan k) ((arbitrate s).chan k) := by
  rcases arbitrate_chan s k with h | ⟨h, -⟩ <;> rw [h]
  · exact .refl _
  · exact .of_eq rfl

theorem timely_arbitrate (s : State) : Timely s (arbitrate s) := by
  refine ⟨(calm_arbitrate s).ctl, (calm_arbitrate s).pins, fun k => ?_, fresh_arbitrate s⟩
  rcases arbitrate_chan s k with h | ⟨h, -⟩ <;> rw [h]

theorem Local.timely {c : Chan} {s t : State} (h : Local c s t) : Timely s t := ⟨h.ctl, h.pins, h.desc, h.fresh⟩

theorem timely_onHold (c : Chan) (p : Channel → Bool) {body : Descriptor → State → State}
    (hbody : ∀ d s, Local c s (body d s)) (s : State) : Timely s (onHold c p body s) := by
  rcases onHold_cases c p body s with h | ⟨d, -, -, -, -, h⟩ <;> rw [h]
  · exact .refl s
  · exact (hbody d s).timely.trans (timely_arbitrate _)

theorem timely_onTrain (c : Chan) (p : Channel → Bool) {body : Descriptor → TrainPart → State → State}
    (hbody : ∀ d q s, Local c s (body d q s)) (s : State) : Timely s (onTrain c p body s) := by
  rcases onTrain_cases c p body s with h | ⟨d, q, -, -, -, -, h⟩ <;> rw [h]
  · exact .refl s
  · exact (hbody d q s).timely.trans (timely_arbitrate _)

section
variable (c : Chan) (s : State)

theorem timely_minHoldExpires : Timely s (minHoldExpires c s) := timely_onHold c _ (local_becomeHeld c) s

theorem timely_maxHoldExpires : Timely s (maxHoldExpires c s) := timely_onHold c _ (local_forceRelease c) s

theorem timely_holdRecoveryEnds : Timely s (holdRecoveryEnds c s) := timely_onHold c _ (local_endHoldRecovery c) s

theorem timely_markExpires : Timely s (markExpires c s) := timely_onTrain c _ (fun d _ => local_endMark c d) s

theorem timely_spaceExpires : Timely s (spaceExpires c s) := timely_onTrain c _ (fun _ p => local_endSpace c p) s

theorem timely_pauseExpires : Timely s (pauseExpires c s) := timely_onTrain c _ (local_endPause c) s

theorem timely_trainRecoveryEnds : Timely s (trainRecoveryEnds c s) := timely_onTrain c _ (local_endTrainRecovery c) s

theorem timely_settleExpires : Timely s (settleExpires c s) := (local_settleExpires c s).timely

theorem timely_filterExpires : Timely s (filterExpires c s) := by
  unfold filterExpires
  rcases onEvent_cases s (arbitrate (confirmMismatch c s))
    ((s.chan c).cmpPhase == some .filtering && isDue ((s.chan c).cmp.bind (·.filter))) with h | h <;> rw [h]
  · exact (local_confirmMismatch c s).timely.trans (timely_arbitrate _)
  · exact .refl s

end

/-- The expiries of a HOLD channel, as a tick takes them. -/
def holdDue (c : Chan) (s : State) : State := holdRecoveryEnds c (maxHoldExpires c (minHoldExpires c s))

/-- The expiries of a TRAIN channel, as a tick takes them. -/
def trainDue (c : Chan) (s : State) : State := trainRecoveryEnds c (pauseExpires c (spaceExpires c (markExpires c s)))

/-- The expiries of a comparison, as a tick takes them. -/
def comparisonDue (c : Chan) (s : State) : State := filterExpires c (settleExpires c s)

theorem takeDueOf_eq (c : Chan) (s : State) : takeDueOf c s = comparisonDue c (trainDue c (holdDue c s)) := rfl

section
variable (c : Chan) (s : State)

theorem timely_holdDue : Timely s (holdDue c s) :=
  ((timely_minHoldExpires c s).trans (timely_maxHoldExpires c _)).trans (timely_holdRecoveryEnds c _)

theorem timely_trainDue : Timely s (trainDue c s) :=
  (((timely_markExpires c s).trans (timely_spaceExpires c _)).trans (timely_pauseExpires c _)).trans
    (timely_trainRecoveryEnds c _)

theorem timely_comparisonDue : Timely s (comparisonDue c s) :=
  (timely_settleExpires c s).trans (timely_filterExpires c _)

theorem timely_takeDueOf : Timely s (takeDueOf c s) :=
  ((timely_holdDue c s).trans (timely_trainDue c _)).trans (timely_comparisonDue c _)

theorem timely_holdHeadTakes : Timely s (holdHeadTakes c s) := timely_onHold c _ (local_takeHoldHeads c) s

theorem timely_trainHeadTakes : Timely s (trainHeadTakes c s) := timely_onTrain c _ (local_takeTrainHead c) s

theorem timely_takeAppendedOf : Timely s (takeAppendedOf c s) :=
  ((timely_holdHeadTakes c s).trans (timely_holdHeadTakes c _)).trans (timely_trainHeadTakes c _)

end

theorem Timely.foldl {op : Chan → State → State} (hop : ∀ c s, Timely s (op c s)) (l : List Chan) (s : State) :
    Timely s (l.foldl (fun t c => op c t) s) := by
  induction l generalizing s with
  | nil => exact .refl s
  | cons c l ih => exact (hop c s).trans (ih _)

end Sys2Proof.Machine
end

section
/-! O32: each expiry spends its timer, so that after all of them no timer is due. -/

namespace Sys2Proof.Machine

section
variable {c : Chan} {s : State}

/-! ### What a channel is whose timer runs (R37, R57) -/

theorem Core.timerLaw (h : Core s) (c : Chan) : TimerLaw (s.chan c) := by
  cases hd : (s.chan c).desc with
  | none =>
    rw [(h.lawful.slots c).unconfigured hd]
    simp [TimerLaw, Channel.empty]
  | some d => exact (h.lawful.recordLaw hd).timer

/-- A channel in its cadence is configured, and the mode is RUN. -/
theorem Core.inCadence (h : Core s) (hs : (s.chan c).state.isCadence = true) :
    s.ctl.mode = .run ∧ ∃ d, (s.chan c).desc = some d ∧ RecordLaw .run d (s.chan c) := by
  cases hd : (s.chan c).desc with
  | none =>
    rw [(h.lawful.slots c).unconfigured hd] at hs
    cases hs
  | some d =>
    have hrecord := h.lawful.recordLaw hd
    have hrun := hrecord.cadence hs
    exact ⟨hrun, d, rfl, hrun ▸ hrecord⟩

/-- A channel in its cadence takes the events of a HOLD or of a TRAIN channel. -/
theorem Core.cadenceRuns (h : Core s) (hlive : s.live = true) (hs : (s.chan c).state.isCadence = true) :
    ∃ d, RecordLaw .run d (s.chan c) ∧
      ((∃ p, d.kind = .hold p ∧ HoldRuns c d s) ∨ ∃ p, d.kind = .train p ∧ TrainRuns c d p s) := by
  obtain ⟨hrun, d, hd, hrecord⟩ := h.inCadence hs
  refine ⟨d, hrecord, ?_⟩
  cases hk : d.kind with
  | hold p => exact .inl ⟨p, rfl, hlive, hrun, hd, by rw [hk]; rfl⟩
  | train p => exact .inr ⟨p, rfl, hlive, hrun, hd, hk⟩

theorem Core.holdRuns (h : Core s) (hlive : s.live = true)
    (hs : (s.chan c).state = .holding ∨ (s.chan c).state = .held) : ∃ d, HoldRuns c d s := by
  obtain ⟨d, hrecord, ⟨-, -, hruns⟩ | ⟨p, hk, -⟩⟩ :=
    h.cadenceRuns (c := c) hlive (by rcases hs with hs | hs <;> rw [hs] <;> rfl)
  · exact ⟨d, hruns⟩
  · have hstate := hrecord.train_state hk
    rcases hs with hs | hs <;> simp [hs] at hstate

theorem Core.trainRuns (h : Core s) (hlive : s.live = true)
    (hs : (s.chan c).state = .mark ∨ (s.chan c).state = .space ∨ (s.chan c).state = .pausing) :
    ∃ d p, TrainRuns c d p s := by
  obtain ⟨d, hrecord, ⟨p, hk, -⟩ | ⟨p, -, hruns⟩⟩ :=
    h.cadenceRuns (c := c) hlive (by rcases hs with hs | hs | hs <;> rw [hs] <;> rfl)
  · have hstate := hrecord.hold_state hk
    rcases hs with hs | hs | hs <;> simp [hs] at hstate
  · exact ⟨d, p, hruns⟩

/-! ### What each expiry does to its own timer -/

section
variable (c : Chan) (d : Descriptor) (p : TrainPart) (s : State)

theorem becomeHeld_minHold : ((becomeHeld c d s).chan c).minHold ≠ some 0 := by
  have htaken : Local c (modChan c (fun x => { x with state := .held, minHold := none }) s) (becomeHeld c d s) :=
    .ite ((local_takeHoldHeads c d _).trans (local_forceRelease c d _)) (local_takeHoldHeads c d _)
  intro h
  have hstopped := (htaken.fresh c).minHold h
  rw [modChan_chan_self] at hstopped
  cases hstopped

theorem forceRelease_maxHold : ((forceRelease c d s).chan c).maxHold ≠ some 0 := by
  rw [forceRelease, releaseHold_eq, setChan_chan_self]
  nofun

theorem endHoldRecovery_recovery : ((endHoldRecovery c d s).chan c).recovery ≠ some 0 := by
  have hended : Local c (modChan c (fun x => { x with recovery := none }) s) (endHoldRecovery c d s) := by
    refine Local.trans ?_ (local_takeHoldHeads c d _)
    exact (local_releaseToken c _).trans (local_modChan ⟨rfl, rfl, id, .of_eq rfl⟩)
  intro h
  have hstopped := (hended.fresh c).recovery h
  rw [modChan_chan_self] at hstopped
  cases hstopped

theorem leaveMark_markTimer {f : Channel → Channel} (hf : ∀ x, (f x).markTimer = x.markTimer) :
    ((leaveMark c d f s).chan c).markTimer ≠ some 0 := by
  rw [leaveMark, requestDrive, modChan_chan_self, modChan_chan_self]
  dsimp only
  rw [hf]
  nofun

theorem endMark_markTimer : ((endMark c d s).chan c).markTimer ≠ some 0 := by
  unfold endMark
  dsimp only
  split
  · exact leaveMark_markTimer c d _ fun _ => rfl
  · split
    · exact leaveMark_markTimer c d _ fun _ => rfl
    · exact leaveMark_markTimer c d _ fun _ => rfl

theorem endSpace_spaceTimer : ((endSpace c p s).chan c).spaceTimer ≠ some 0 := by
  rw [endSpace, requestDrive, modChan_chan_self, modChan_chan_self]
  nofun

theorem endPause_pauseTimer : ((endPause c d p s).chan c).pauseTimer ≠ some 0 := by
  intro h
  have hstopped := ((local_takeTrainHead c d p _).fresh c).pauseTimer h
  rw [modChan_chan_self] at hstopped
  cases hstopped

theorem endTrainRecovery_recovery : ((endTrainRecovery c d p s).chan c).recovery ≠ some 0 := by
  have hended : Local c (modChan c (fun x => { x with recovery := none }) s) (endTrainRecovery c d p s) := by
    refine Local.trans ?_ (local_takeTrainHead c d p _)
    exact (local_releaseToken c _).trans (local_modChan ⟨rfl, rfl, id, .of_eq rfl⟩)
  intro h
  have hstopped := (hended.fresh c).recovery h
  rw [modChan_chan_self] at hstopped
  cases hstopped

theorem settled_settle (sense : Bool) (k : Comparison) : (k.settled sense).settle = none := by
  unfold Comparison.settled
  split <;> rfl

/-- A confirmed mismatch stops the filter timer, and nothing after starts it (R131). -/
theorem confirmMismatch_filter (hsupervised : ((s.chan c).desc.bind (·.feedback)).isSome = true) :
    ((confirmMismatch c s).chan c).cmp.bind (·.filter) ≠ some 0 := by
  have hconfirmed : Local c (modComparison c (fun _ k => { k with phase := .confirmed, filter := none }) s)
      (confirmMismatch c s) := by
    have hrecorded := local_record c .feedbackFault (some c) (s.chan c).driven none none
      (modComparison c (fun _ k => { k with phase := .confirmed, filter := none }) s)
    exact .ite (local_reportStuck c _) (.ite hrecorded (hrecorded.trans (local_faultChannel c _ _)))
  intro h
  have hstopped := (hconfirmed.fresh c).filter h
  obtain ⟨fb, hfb⟩ := Option.isSome_iff_exists.mp hsupervised
  rw [modComparison, modChan_chan_self] at hstopped
  simp only [hfb] at hstopped
  cases hk : (s.chan c).cmp <;> simp [hk] at hstopped

end

/-! ### Each expiry taken when it is due -/

/-- The arbiter's choice leaves a timer alone. -/
theorem arbitrate_timer {timer : Channel → Option Nat} (hslot : ∀ x, timer { x with slot := none } = timer x)
    (c : Chan) (t : State) : timer ((arbitrate t).chan c) = timer (t.chan c) := by
  rcases arbitrate_chan t c with h | ⟨h, -⟩ <;> rw [h]
  exact hslot _

theorem onHold_spends {timer : Channel → Option Nat} {condition : Channel → Bool} {body : Descriptor → State → State}
    (hslot : ∀ x, timer { x with slot := none } = timer x)
    (hdue : timer (s.chan c) = some 0 → ∃ d, HoldRuns c d s ∧ condition (s.chan c) = true)
    (hbody : ∀ d, timer ((body d s).chan c) ≠ some 0) : timer ((onHold c condition body s).chan c) ≠ some 0 := by
  by_cases h : timer (s.chan c) = some 0
  · obtain ⟨d, hruns, hcondition⟩ := hdue h
    rw [hruns.onHold_taken hcondition, arbitrate_timer hslot]
    exact hbody d
  · rcases onHold_cases c condition body s with e | ⟨d, -, -, -, -, e⟩ <;> rw [e]
    · exact h
    · rw [arbitrate_timer hslot]
      exact hbody d

theorem onTrain_spends {timer : Channel → Option Nat} {condition : Channel → Bool}
    {body : Descriptor → TrainPart → State → State} (hslot : ∀ x, timer { x with slot := none } = timer x)
    (hdue : timer (s.chan c) = some 0 → ∃ d p, TrainRuns c d p s ∧ condition (s.chan c) = true)
    (hbody : ∀ d p, timer ((body d p s).chan c) ≠ some 0) : timer ((onTrain c condition body s).chan c) ≠ some 0 := by
  by_cases h : timer (s.chan c) = some 0
  · obtain ⟨d, p, hruns, hcondition⟩ := hdue h
    rw [hruns.onTrain_taken hcondition, arbitrate_timer hslot]
    exact hbody d p
  · rcases onTrain_cases c condition body s with e | ⟨d, p, -, -, -, -, e⟩ <;> rw [e]
    · exact h
    · rw [arbitrate_timer hslot]
      exact hbody d p

section
variable (h : Core s) (hlive : s.live = true)
include h hlive

theorem minHoldExpires_spends : ((minHoldExpires c s).chan c).minHold ≠ some 0 := by
  refine onHold_spends (timer := (·.minHold)) (fun _ => rfl) (fun hdue => ?_) fun d => becomeHeld_minHold c d s
  obtain ⟨hstate, -⟩ := h.timerLaw c
  have hs : (s.chan c).state = .holding := hstate (by rw [hdue]; rfl)
  obtain ⟨d, hruns⟩ := h.holdRuns hlive (.inl hs)
  exact ⟨d, hruns, by simp [hs, hdue, isDue]⟩

/-- A max-hold timer due in HOLDING has a min-hold timer due before it (R51). -/
theorem maxHoldExpires_spends (hmin : (s.chan c).minHold ≠ some 0) : ((maxHoldExpires c s).chan c).maxHold ≠ some 0 := by
  refine onHold_spends (timer := (·.maxHold)) (fun _ => rfl) (fun hdue => ?_) fun d => forceRelease_maxHold c d s
  obtain ⟨-, hstate, -, -, -, -, hfirst⟩ := h.timerLaw c
  have hs : (s.chan c).state = .held := by
    rcases hstate (by rw [hdue]; rfl) with hs | hs
    · have hbefore := hfirst hs 0 hdue
      cases hn : (s.chan c).minHold with
      | none =>
        rw [hn] at hbefore
        cases hbefore
      | some n =>
        obtain rfl : n = 0 := by simpa [hn] using hbefore
        exact absurd hn hmin
    · exact hs
  obtain ⟨d, hruns⟩ := h.holdRuns hlive (.inr hs)
  exact ⟨d, hruns, by simp [maxHoldDue, hs, hdue, isDue]⟩

theorem markExpires_spends : ((markExpires c s).chan c).markTimer ≠ some 0 := by
  refine onTrain_spends (timer := (·.markTimer)) (fun _ => rfl) (fun hdue => ?_) fun d _ => endMark_markTimer c d s
  obtain ⟨-, -, hstate, -⟩ := h.timerLaw c
  have hs : (s.chan c).state = .mark := hstate (by rw [hdue]; rfl)
  obtain ⟨d, p, hruns⟩ := h.trainRuns hlive (.inl hs)
  exact ⟨d, p, hruns, by simp [hs, hdue, isDue]⟩

theorem spaceExpires_spends : ((spaceExpires c s).chan c).spaceTimer ≠ some 0 := by
  refine onTrain_spends (timer := (·.spaceTimer)) (fun _ => rfl) (fun hdue => ?_) fun _ p => endSpace_spaceTimer c p s
  obtain ⟨-, -, -, hstate, -⟩ := h.timerLaw c
  have hs : (s.chan c).state = .space := hstate (by rw [hdue]; rfl)
  obtain ⟨d, p, hruns⟩ := h.trainRuns hlive (.inr (.inl hs))
  exact ⟨d, p, hruns, by simp [hs, hdue, isDue]⟩

theorem pauseExpires_spends : ((pauseExpires c s).chan c).pauseTimer ≠ some 0 := by
  refine onTrain_spends (timer := (·.pauseTimer)) (fun _ => rfl) (fun hdue => ?_) fun d p => endPause_pauseTimer c d p s
  obtain ⟨-, -, -, -, hstate, -⟩ := h.timerLaw c
  have hs : (s.chan c).state = .pausing := hstate.mp (by rw [hdue]; rfl)
  obtain ⟨d, p, hruns⟩ := h.trainRuns hlive (.inr (.inr hs))
  exact ⟨d, p, hruns, by simp [hs, hdue, isDue]⟩

/-- The end of a recovery is a row of the HOLD or of the TRAIN machine, by the kind. -/
theorem holdRecoveryEnds_spends (hk : ∃ d p, (s.chan c).desc = some d ∧ d.kind = .hold p) :
    ((holdRecoveryEnds c s).chan c).recovery ≠ some 0 := by
  refine onHold_spends (timer := (·.recovery)) (fun _ => rfl) (fun hdue => ?_) fun d => endHoldRecovery_recovery c d s
  obtain ⟨-, -, -, -, -, hstate, -⟩ := h.timerLaw c
  have hs : (s.chan c).state = .recovering := hstate (by rw [hdue]; rfl)
  obtain ⟨d, p, hd, hhold⟩ := hk
  obtain ⟨e, -, ⟨-, -, hruns⟩ | ⟨q, htrain, hruns⟩⟩ := h.cadenceRuns (c := c) hlive (by rw [hs]; rfl)
  · exact ⟨e, hruns, by simp [hs, hdue, isDue]⟩
  · rw [hruns.desc] at hd
    cases hd
    rw [htrain] at hhold
    cases hhold

theorem trainRecoveryEnds_spends (hk : ¬ ∃ d p, (s.chan c).desc = some d ∧ d.kind = .hold p) :
    ((trainRecoveryEnds c s).chan c).recovery ≠ some 0 := by
  refine onTrain_spends (timer := (·.recovery)) (fun _ => rfl) (fun hdue => ?_) fun d p => endTrainRecovery_recovery c d p s
  obtain ⟨-, -, -, -, -, hstate, -⟩ := h.timerLaw c
  have hs : (s.chan c).state = .recovering := hstate (by rw [hdue]; rfl)
  obtain ⟨e, -, ⟨p, hhold, hruns⟩ | ⟨q, -, hruns⟩⟩ := h.cadenceRuns (c := c) hlive (by rw [hs]; rfl)
  · exact absurd ⟨e, p, hruns.desc, hhold⟩ hk
  · exact ⟨e, q, hruns, by simp [hs, hdue, isDue]⟩

omit hlive in
/-- A comparison is kept for a supervised channel alone (R126). -/
theorem Core.supervised {k : Comparison} (hk : (s.chan c).cmp = some k) :
    ((s.chan c).desc.bind (·.feedback)).isSome = true ∧ (k.settle.isSome = true → k.phase = .settling) ∧
      (k.filter.isSome = true → k.phase = .filtering) := by
  cases hd : (s.chan c).desc with
  | none =>
    rw [(h.lawful.slots c).unconfigured hd] at hk
    cases hk
  | some d =>
    obtain ⟨hpresent, hlaw⟩ := (h.lawful.recordLaw hd).comparison
    have hfeedback : d.feedback.isSome = true := hpresent.mp (by rw [hk]; rfl)
    obtain ⟨f, hf⟩ := Option.isSome_iff_exists.mp hfeedback
    obtain ⟨-, hsettle, hfilter, -⟩ := hlaw f hf k hk
    exact ⟨hfeedback, hsettle.mp, hfilter.mp⟩

theorem settleExpires_spends : ((settleExpires c s).chan c).cmp.bind (·.settle) ≠ some 0 := by
  by_cases hdue : (s.chan c).cmp.bind (·.settle) = some 0
  · obtain ⟨k, hk, hzero⟩ := Option.bind_eq_some_iff.mp hdue
    obtain ⟨hsupervised, hphase, -⟩ := h.supervised hk
    obtain ⟨fb, hfb⟩ := Option.isSome_iff_exists.mp hsupervised
    have hsettling : k.phase = .settling := hphase (by rw [hzero]; rfl)
    rw [settleExpires, onEvent_taken hlive (by simp [Channel.cmpPhase, hk, hsettling, hzero, isDue]), modComparison,
      modChan_chan_self]
    simp [hfb, hk, settled_settle]
  · exact hdue ∘ ((timely_settleExpires c s).fresh c).settle

theorem filterExpires_spends : ((filterExpires c s).chan c).cmp.bind (·.filter) ≠ some 0 := by
  by_cases hdue : (s.chan c).cmp.bind (·.filter) = some 0
  · obtain ⟨k, hk, hzero⟩ := Option.bind_eq_some_iff.mp hdue
    obtain ⟨hsupervised, -, hphase⟩ := h.supervised hk
    have hfiltering : k.phase = .filtering := hphase (by rw [hzero]; rfl)
    rw [filterExpires, onEvent_taken hlive (by simp [Channel.cmpPhase, hk, hfiltering, hzero, isDue])]
    exact confirmMismatch_filter c s hsupervised ∘ (fresh_arbitrate _ c).filter
  · exact hdue ∘ ((timely_filterExpires c s).fresh c).filter

end

end

end Sys2Proof.Machine
end

section
/-! O32: after every expiry that a tick takes before it, no timer is due. -/

namespace Sys2Proof.Machine

section
variable {s : State}

/-- The kind of a channel, if it is HOLD. -/
def IsHold (c : Chan) (s : State) : Prop := ∃ d p, (s.chan c).desc = some d ∧ d.kind = .hold p

theorem Timely.isHold {c : Chan} {t : State} (h : Timely s t) : IsHold c t ↔ IsHold c s := by
  rw [IsHold, h.desc c]
  rfl

section
variable (h : Core s) (hlive : s.live = true) (c : Chan)
include h hlive

theorem holdDue_spends :
    ((holdDue c s).chan c).minHold ≠ some 0 ∧ ((holdDue c s).chan c).maxHold ≠ some 0 ∧
      (IsHold c s → ((holdDue c s).chan c).recovery ≠ some 0) := by
  have hmin := minHoldExpires_spends (c := c) h hlive
  have hheld := timely_minHoldExpires c s
  have hheldCore := core_minHoldExpires h c
  have hmax := maxHoldExpires_spends hheldCore (hheld.live hlive) hmin
  have hreleased := timely_maxHoldExpires c (minHoldExpires c s)
  have hbefore := hheld.trans hreleased
  have hended := (timely_holdRecoveryEnds c (maxHoldExpires c (minHoldExpires c s))).fresh c
  exact ⟨hmin ∘ ((hreleased.fresh c).trans hended).minHold, hmax ∘ hended.maxHold, fun hk =>
    holdRecoveryEnds_spends (core_maxHoldExpires hheldCore c) (hbefore.live hlive) (hbefore.isHold.mpr hk)⟩

theorem trainDue_spends :
    ((trainDue c s).chan c).markTimer ≠ some 0 ∧ ((trainDue c s).chan c).spaceTimer ≠ some 0 ∧
      ((trainDue c s).chan c).pauseTimer ≠ some 0 ∧ (¬ IsHold c s → ((trainDue c s).chan c).recovery ≠ some 0) := by
  have hmark := markExpires_spends (c := c) h hlive
  have hmarked := timely_markExpires c s
  have hmarkedCore := core_markExpires h c
  have hspace := spaceExpires_spends (c := c) hmarkedCore (hmarked.live hlive)
  have hspaced := hmarked.trans (timely_spaceExpires c _)
  have hspacedCore := core_spaceExpires hmarkedCore c
  have hpause := pauseExpires_spends (c := c) hspacedCore (hspaced.live hlive)
  have hpaused := hspaced.trans (timely_pauseExpires c _)
  have hended := (timely_trainRecoveryEnds c (pauseExpires c (spaceExpires c (markExpires c s)))).fresh c
  have hfromSpace := ((timely_pauseExpires c (spaceExpires c (markExpires c s))).fresh c).trans hended
  have hfromMark := ((timely_spaceExpires c (markExpires c s)).fresh c).trans hfromSpace
  exact ⟨hmark ∘ hfromMark.markTimer, hspace ∘ hfromSpace.spaceTimer, hpause ∘ hended.pauseTimer, fun hk =>
    trainRecoveryEnds_spends (core_pauseExpires hspacedCore c) (hpaused.live hlive) (hk ∘ hpaused.isHold.mp)⟩

theorem comparisonDue_spends :
    ((comparisonDue c s).chan c).cmp.bind (·.settle) ≠ some 0 ∧
      ((comparisonDue c s).chan c).cmp.bind (·.filter) ≠ some 0 :=
  ⟨settleExpires_spends h hlive ∘ ((timely_filterExpires c _).fresh c).settle,
    filterExpires_spends (core_settleExpires h c) ((timely_settleExpires c s).live hlive)⟩

/-- The expiries of one channel leave none of its timers due. -/
theorem takeDueOf_undue : Undue ((takeDueOf c s).chan c) := by
  obtain ⟨hmin, hmax, hholdEnd⟩ := holdDue_spends h hlive c
  have hhold := timely_holdDue c s
  have hholdCore : Core (holdDue c s) := core_holdRecoveryEnds (core_maxHoldExpires (core_minHoldExpires h c) c) c
  obtain ⟨hmark, hspace, hpause, htrainEnd⟩ := trainDue_spends hholdCore (hhold.live hlive) c
  have htrain := hhold.trans (timely_trainDue c _)
  have htrainCore : Core (trainDue c (holdDue c s)) :=
    core_trainRecoveryEnds (core_pauseExpires (core_spaceExpires (core_markExpires hholdCore c) c) c) c
  obtain ⟨hsettle, hfilter⟩ := comparisonDue_spends htrainCore (htrain.live hlive) c
  have hcompared := (timely_comparisonDue c (trainDue c (holdDue c s))).fresh c
  have hfromTrain := ((timely_trainDue c (holdDue c s)).fresh c).trans hcompared
  rw [takeDueOf_eq]
  refine ⟨hmin ∘ hfromTrain.minHold, hmax ∘ hfromTrain.maxHold, hmark ∘ hcompared.markTimer,
    hspace ∘ hcompared.spaceTimer, hpause ∘ hcompared.pauseTimer, ?_, hsettle, hfilter⟩
  by_cases hk : IsHold c s
  · exact hholdEnd hk ∘ hfromTrain.recovery
  · exact htrainEnd (hk ∘ hhold.isHold.mp) ∘ hcompared.recovery

end

/-- The expiries of all channels leave none of their timers due. -/
theorem channelExpiries_undue (h : Core s) (hlive : s.live = true) (c : Chan) :
    Undue ((allChans.foldl (fun t c => takeDueOf c t) s).chan c) := by
  obtain ⟨ahead, behind, -, -, hsplit⟩ := foldl_allChans takeDueOf c s
  rw [hsplit]
  have haheadT := Timely.foldl timely_takeDueOf ahead s
  have hahead := core_foldl (fun c _ hu => core_takeDueOf c hu) ahead h
  exact ((Timely.foldl timely_takeDueOf behind _).fresh c).undue (takeDueOf_undue hahead (haheadT.live hlive) c)

/-! ### The heartbeat (R152) -/

theorem fresh_clearRun (next : Mode) (s : State) (k : Chan) : Fresh (s.chan k) ((clearRun next s).chan k) := by
  rw [clearRun_chan]
  split
  · split
    · exact .of_eq rfl
    · exact .stopped rfl rfl
  · exact .of_eq rfl

/-- RUN left for SAFE leaves no timer of a channel due that was not, and the heartbeat timer stopped (R146, R151). -/
theorem leaveRunToSafe_timers (cause : SafeCause) (s : State) :
    (leaveRunToSafe cause s).ctl.heartbeat = none ∧ ∀ k, Fresh (s.chan k) ((leaveRunToSafe cause s).chan k) := by
  have hcleared : ∀ t : State, t.ctl.mode = .enteringSafe → t.ctl.heartbeat = none →
      (∀ k, Fresh (s.chan k) (t.chan k)) →
      (transitionReport t).ctl.heartbeat = none ∧ ∀ k, Fresh (s.chan k) ((transitionReport t).chan k) := by
    intro t hm hheartbeat hfresh
    rcases transitionReport_cases t with ⟨-, hrun, -⟩ | ⟨-, -, e⟩ | ⟨-, hconfig, -⟩ | ⟨-, e⟩
    · rw [hm] at hrun
      cases hrun
    · rw [e]
      exact ⟨hheartbeat, hfresh⟩
    · rw [hm] at hconfig
      cases hconfig
    · rw [e]
      exact ⟨hheartbeat, hfresh⟩
  rw [leaveRunToSafe, leaveRun_eq]
  refine hcleared _ (clearRun_mode _ _) (by simp [clearRun]) fun k => ?_
  have hchan : (giveUpStall (fun _ => true) (setSafeCause cause s)).chan k = s.chan k := by
    rw [giveUpStall_chan]
    rfl
  have hfresh := fresh_clearRun .enteringSafe (giveUpStall (fun _ => true) (setSafeCause cause s)) k
  rwa [hchan] at hfresh

theorem heartbeatExpires_fresh (k : Chan) : Fresh (s.chan k) ((heartbeatExpires s).chan k) := by
  obtain ⟨-, hleft⟩ := leaveRunToSafe_timers .heartbeat (record .heartbeatLost none none none none s)
  unfold heartbeatExpires State.onEvent
  split
  · exact (hleft k).trans (fresh_arbitrate _ k)
  · exact .refl _

theorem heartbeatExpires_spends (hlaw : HeartbeatLaw s) (hlive : s.live = true) :
    (heartbeatExpires s).ctl.heartbeat ≠ some 0 := by
  obtain ⟨hstopped, -⟩ := leaveRunToSafe_timers .heartbeat (record .heartbeatLost none none none none s)
  by_cases hdue : s.ctl.heartbeat = some 0
  · have hrun : s.ctl.mode = .run := hlaw (by rw [hdue]; rfl)
    rw [heartbeatExpires, onEvent_taken hlive (by simp [hrun, hdue, isDue]), (calm_arbitrate _).ctl, hstopped]
    nofun
  · unfold heartbeatExpires State.onEvent
    split
    · rw [(calm_arbitrate _).ctl, hstopped]
      nofun
    · exact hdue

/-- The expiries taken before a tick leave none due. -/
theorem takeDue_noneDue (h : Sound s) (hlive : s.live = true) : NoneDue (takeDue s) := by
  have hheartbeat : HeartbeatLaw s := by
    obtain ⟨-, -, -, -, -, -, -, -, -, hheartbeat, -⟩ := h
    exact hheartbeat
  have hchannels : Timely s (allChans.foldl (fun t c => takeDueOf c t) s) := .foldl timely_takeDueOf allChans s
  rw [takeDue]
  refine noneDue_iff.mpr ⟨heartbeatExpires_spends ?_ (hchannels.live hlive), fun c => ?_⟩
  · rw [HeartbeatLaw, hchannels.ctl]
    exact hheartbeat
  · exact (heartbeatExpires_fresh c).undue (channelExpiries_undue h.core hlive c)

theorem takeDue_live (hlive : s.live = true) : (takeDue s).live = true := by
  have hpins : (takeDue s).pins = s.pins := by
    have hchannels : Timely s (allChans.foldl (fun t c => takeDueOf c t) s) := .foldl timely_takeDueOf allChans s
    rw [takeDue, (steady_heartbeatExpires _).pins, hchannels.pins]
  exact (live_of_pins hpins).trans hlive

end

end Sys2Proof.Machine
end

section
/-! O32, the heads taken before a tick (R30, R38, R59, notes/assumptions/22.md): the takes of one channel leave no head
waiting there, and those of another give it none. -/

namespace Sys2Proof.Machine

section
variable {c : Chan} {s : State}

/-- No head waits in a state in which the channel takes heads. -/
def NoHead (x : Channel) : Prop :=
  ∀ d, x.desc = some d →
    (d.kind.holdPart.isSome = true → x.state = .resting ∨ x.state = .waiting ∨ x.state = .held → x.queue = []) ∧
    (d.kind.trainPart.isSome = true → x.state = .resting → x.queue = [])

theorem noHeadWaits_iff : NoHeadWaits s ↔ ∀ c, NoHead (s.chan c) := Iff.rfl

theorem NoHead.of_queue {x : Channel} (h : x.queue = []) : NoHead x := fun _ _ => ⟨fun _ _ => h, fun _ _ => h⟩

/-- A channel in a state in which no channel takes heads. -/
theorem NoHead.of_holdTakes {x : Channel} (h : holdTakes x.state = false) : NoHead x := by
  refine fun _ _ => ⟨fun _ hs => ?_, fun _ hs => ?_⟩
  · rcases hs with hs | hs | hs <;> rw [hs] at h <;> cases h
  · rw [hs] at h
    cases h

theorem noHead_of_train {d : Descriptor} {p : TrainPart} {x : Channel} (hx : x.desc = some d) (hk : d.kind = .train p)
    (hs : x.state ≠ .resting) : NoHead x := by
  intro e he
  obtain rfl : d = e := Option.some.inj (hx.symm.trans he)
  refine ⟨fun hhold => ?_, fun _ h => absurd h hs⟩
  rw [hk] at hhold
  cases hhold

theorem NoHead.of_granted {x y : Channel} (h : Granted x y) : NoHead y := by
  refine .of_holdTakes ?_
  rcases h.state with hs | hs <;> rw [hs] <;> rfl

theorem NoHead.arbitrate {t : State} (h : NoHead (t.chan c)) : NoHead ((arbitrate t).chan c) := by
  rcases arbitrate_chan t c with e | ⟨e, -⟩ <;> rw [e] <;> exact h

/-! ### The takes of another channel -/

theorem NoHead.of_local {k : Chan} {t : State} (h : NoHead (s.chan c)) (hst : Local k s t) (hne : c ≠ k) :
    NoHead (t.chan c) := by
  rcases hst.others c hne with e | hgranted
  · rwa [e]
  · exact .of_granted hgranted

theorem NoHead.holdHeadTakes {k : Chan} (h : NoHead (s.chan c)) (hne : c ≠ k) :
    NoHead ((holdHeadTakes k s).chan c) := by
  rcases onHold_cases k (fun x => holdTakes x.state && !x.queue.isEmpty) (takeHoldHeads k) s with
    e | ⟨d, -, -, -, -, e⟩ <;> rw [Machine.holdHeadTakes, e]
  · exact h
  · exact (h.of_local (local_takeHoldHeads k d s) hne).arbitrate

theorem NoHead.trainHeadTakes {k : Chan} (h : NoHead (s.chan c)) (hne : c ≠ k) :
    NoHead ((trainHeadTakes k s).chan c) := by
  rcases onTrain_cases k (fun x => x.state == .resting && !x.queue.isEmpty) (takeTrainHead k) s with
    e | ⟨d, p, -, -, -, -, e⟩ <;> rw [Machine.trainHeadTakes, e]
  · exact h
  · exact (h.of_local (local_takeTrainHead k d p s) hne).arbitrate

theorem NoHead.takeAppended {l : List Chan} (h : NoHead (s.chan c)) (hl : c ∉ l) :
    NoHead ((l.foldl (fun t k => takeAppendedOf k t) s).chan c) := by
  induction l generalizing s with
  | nil => exact h
  | cons k l ih =>
    have hne : c ≠ k := List.ne_of_not_mem_cons hl
    exact ih (((h.holdHeadTakes hne).holdHeadTakes hne).trainHeadTakes hne) (List.not_mem_of_not_mem_cons hl)

/-! ### With no head waiting -/

theorem trainHeadTakes_noHead (h : NoHead (s.chan c)) : trainHeadTakes c s = s := by
  rcases onTrain_cases c (fun x => x.state == .resting && !x.queue.isEmpty) (takeTrainHead c) s with
    e | ⟨d, p, hdp, -, -, hp, -⟩
  · exact e
  · obtain ⟨e, hd, hk⟩ := Option.bind_eq_some_iff.mp hdp
    split at hk
    · rename_i q hq
      cases hk
      simp only [Bool.and_eq_true, beq_iff_eq] at hp
      obtain ⟨-, htrain⟩ := h d hd
      have hnil := htrain (by rw [hq]; rfl) hp.1
      simp [hnil] at hp
    · cases hk

theorem holdHeadTakes_noHead (h : NoHead (s.chan c)) : holdHeadTakes c s = s := by
  rcases onHold_cases c (fun x => holdTakes x.state && !x.queue.isEmpty) (takeHoldHeads c) s with
    e | ⟨d, hd, -, -, hp, -⟩
  · exact e
  · obtain ⟨hdesc, hk⟩ := Option.filter_eq_some_iff.mp hd
    split at hk
    · rename_i q hq
      simp only [Bool.and_eq_true, holdTakes, Bool.or_eq_true, beq_iff_eq, or_assoc] at hp
      obtain ⟨hhold, -⟩ := h d hdesc
      have hnil := hhold (by rw [hq]; rfl) hp.1
      simp [hnil] at hp
    · cases hk

theorem takeAppended_skip (h : NoHeadWaits s) : takeAppended s = s :=
  foldl_skip (fun c => by
    have hnone : NoHead (s.chan c) := h c
    rw [takeAppendedOf, holdHeadTakes_noHead hnone, holdHeadTakes_noHead hnone, trainHeadTakes_noHead hnone]) allChans

/-! ### The heads of a HOLD channel -/

/-- A head acted on leaves the queue behind it alone. -/
theorem actOnSet_queue (d : Descriptor) (v : Byte) (s : State) :
    ((actOnSet c d v s).chan c).queue = (s.chan c).queue := by
  unfold actOnSet activateHold
  dsimp only
  split
  · rfl
  split
  · split
    · rw [enterHolding_eq, setChan_chan_self]
      cases d.group <;> rfl
    · rw [enterWaiting, modChan_chan_self]
      cases d.group <;> rfl
  split
  · split
    · rw [modChan_chan_self]
      unfold withdraw
      split <;> rfl
    · rw [modChan_chan_self]
  split
  · split
    · rw [releaseHold_eq, setChan_chan_self]
      rfl
    · rw [enterHolding_eq, setChan_chan_self]
      rfl
  · rfl

/-- Heads are taken until the queue is empty or the channel has left the taking states (R38). -/
theorem takeHolds_noHead (d : Descriptor) {n : Nat} (hn : (s.chan c).queue.length ≤ n) :
    NoHead ((takeHolds n c d s).chan c) := by
  induction n generalizing s with
  | zero => exact .of_queue (List.length_eq_zero_iff.mp (Nat.le_zero.mp hn))
  | succ n ih =>
    unfold takeHolds
    split
    · rename_i hq
      exact .of_queue hq
    · rename_i e rest hq
      split
      · refine ih ?_
        rw [actOnSet_queue, dropHead, modChan_chan_self, hq]
        rw [hq] at hn
        exact Nat.le_of_succ_le_succ hn
      · rename_i hstops
        exact .of_holdTakes (Bool.not_eq_true _ ▸ hstops)

theorem reexamine_not_stalled (h : s.port.state ≠ .stalled) (c : Chan) : reexamine c s = s := by
  rcases reexamine_cases c s with e | ⟨-, -, -, -, hstalled, -⟩
  · exact e
  · exact absurd hstalled h

theorem Local.not_stalled {t : State} (h : Local c s t) (hs : s.port.state ≠ .stalled) : t.port.state ≠ .stalled := by
  rcases h.port with e | ⟨hstalled, -⟩
  · rwa [e]
  · exact absurd hstalled hs

/-- Without a stall the heads taken in one event leave none waiting. -/
theorem takeHoldHeads_noHead (d : Descriptor) (h : s.port.state ≠ .stalled) :
    NoHead ((takeHoldHeads c d s).chan c) := by
  rw [takeHoldHeads, reexamine_not_stalled ((local_takeHolds _ c d s).not_stalled h)]
  exact takeHolds_noHead d le_rfl

/-- What stalled behind the heads is examined again, and ends its stall (R29). -/
theorem takeHoldHeads_noHead_or (d : Descriptor) :
    NoHead ((takeHoldHeads c d s).chan c) ∨ (takeHoldHeads c d s).port.state ≠ .stalled := by
  rw [takeHoldHeads]
  rcases reexamine_cases c (takeHolds (s.chan c).queue.length c d s) with e | ⟨w, e, -, -, -, -, -, h⟩
  · rw [e]
    exact .inl (takeHolds_noHead d le_rfl)
  · rw [h, answerHost_eq]
    exact .inr (endedPort_not_stalled _ _ _)

/-- A HOLD channel that takes its events takes its heads, or has none to take. -/
theorem HoldRuns.holdHeadTakes_cases {d : Descriptor} (h : HoldRuns c d s) :
    (NoHead (s.chan c) ∧ holdHeadTakes c s = s) ∨ holdHeadTakes c s = arbitrate (takeHoldHeads c d s) := by
  by_cases htakes : (holdTakes (s.chan c).state && !(s.chan c).queue.isEmpty) = true
  · exact .inr (h.onHold_taken htakes)
  · have hnone : NoHead (s.chan c) := by
      rw [Bool.not_eq_true, Bool.and_eq_false_iff] at htakes
      rcases htakes with hstops | hempty
      · exact .of_holdTakes hstops
      · exact .of_queue (by simpa using hempty)
    exact .inl ⟨hnone, holdHeadTakes_noHead hnone⟩

theorem HoldRuns.twice_noHead {d : Descriptor} (h : HoldRuns c d s) :
    NoHead ((holdHeadTakes c (holdHeadTakes c s)).chan c) := by
  have hruns : HoldRuns c d (holdHeadTakes c s) := by
    have ht := timely_holdHeadTakes c s
    exact ⟨ht.live h.live, by rw [ht.ctl, h.mode], (ht.desc c).trans h.desc, h.hold⟩
  have hfirst : NoHead ((holdHeadTakes c s).chan c) ∨ (holdHeadTakes c s).port.state ≠ .stalled := by
    rcases h.holdHeadTakes_cases with ⟨hnone, e⟩ | e <;> rw [e]
    · exact .inl hnone
    · refine (takeHoldHeads_noHead_or d).imp NoHead.arbitrate fun hstalled => ?_
      rcases arbitrate_port (takeHoldHeads c d s) with hport | ⟨-, hport⟩ <;> rw [hport]
      · exact hstalled
      · nofun
  rcases hfirst with hnone | hstalled
  · rwa [holdHeadTakes_noHead hnone]
  · rcases hruns.holdHeadTakes_cases with ⟨hnone, e⟩ | e <;> rw [e]
    · exact hnone
    · exact (takeHoldHeads_noHead d hstalled).arbitrate

/-! ### The head of a TRAIN channel -/

/-- An entry of a TRAIN channel takes it out of RESTING (R60, R61). -/
theorem actOnTrainEntry_state {d : Descriptor} {p : TrainPart} {e : Entry} (he : e.kind ≠ .set) (s : State) :
    ((actOnTrainEntry c d p e s).chan c).state ≠ .resting := by
  unfold actOnTrainEntry startTrain
  split
  · split
    · rw [enterMark_eq, setChan_chan_self]
      nofun
    · rw [enterWaiting, modChan_chan_self]
      nofun
  · rw [startPause, modChan_chan_self]
    nofun
  · rename_i hset
    exact absurd hset he

theorem abortEffect_queue (gap : Half) (x : Channel) : (abortEffect gap x).queue = x.queue := by
  unfold abortEffect
  split <;> rfl

theorem abortTrain_queue {d : Descriptor} (hd : (s.chan c).desc = some d) : ((abortTrain c d s).chan c).queue = [] := by
  by_cases hs : (s.chan c).state = .waiting
  · rw [abortTrain_of_waiting hd hs, recordChannel_chan, waiterRemoved_chan, setChan_chan_self, abortEffect_queue]
  · rw [abortTrain_of_not_waiting hs, recordChannel_chan, setChan_chan_self, abortEffect_queue]

/-- The re-examination of a held write gives a TRAIN channel out of RESTING an entry, or aborts it with its queue. -/
theorem reexamine_train_noHead {d : Descriptor} {p : TrainPart} (hd : (s.chan c).desc = some d) (hk : d.kind = .train p)
    (hs : (s.chan c).state ≠ .resting) : NoHead ((reexamine c s).chan c) := by
  have hout {x : Channel} (hx : x.desc = some d) (hstate : x.state ≠ .resting) : NoHead x := noHead_of_train hx hk hstate
  rcases reexamine_cases c s with e | ⟨w, e, -, he, -, -, -, heq⟩
  · rw [e]
    exact hout hd hs
  · obtain rfl : d = e := Option.some.inj (hd.symm.trans he)
    rw [heq, answerHost_chan]
    rcases examine_cases c d w.data .host s with ⟨-, h⟩ | ⟨-, h⟩ | ⟨e, -, ⟨-, h⟩ | ⟨-, -, h⟩ | ⟨-, -, h⟩⟩ <;> rw [h]
    · exact hout hd hs
    · exact .of_queue (abortTrain_queue hd)
    · exact hout hd hs
    · refine hout ?_ ?_ <;> rw [appendEntry, modChan_chan_self]
      · exact hd
      · exact hs
    · exact hout hd hs

theorem trainHeadTakes_noHead_of_runs {d : Descriptor} {p : TrainPart} (h : Core s) (hruns : TrainRuns c d p s) :
    NoHead ((trainHeadTakes c s).chan c) := by
  by_cases hs : (s.chan c).state = .resting
  swap
  · rw [trainHeadTakes, onTrain_skip fun _ => by simp [hs]]
    exact noHead_of_train hruns.desc hruns.train hs
  cases hq : (s.chan c).queue with
  | nil =>
    rw [trainHeadTakes_noHead (.of_queue hq)]
    exact .of_queue hq
  | cons e rest =>
    have hkind : e.kind ≠ .set := by
      obtain ⟨-, hlegal, -⟩ := (h.lawful.recordLaw hruns.desc).queue
      rw [hq, hruns.train, List.all_cons, Bool.and_eq_true] at hlegal
      intro hset
      simp [entryLegal, hset] at hlegal
    have hacted := (local_setQueue c rest s).trans (local_actOnTrainEntry c d p e _)
    rw [trainHeadTakes, hruns.onTrain_taken (by simp [hs, hq]), takeTrainHead_cons hq hs]
    refine NoHead.arbitrate (reexamine_train_noHead ((hacted.desc c).trans hruns.desc) hruns.train ?_)
    exact actOnTrainEntry_state hkind _

/-! ### The heads of every channel -/

theorem core_takeAppendedOf (h : Core s) (c : Chan) : Core (takeAppendedOf c s) :=
  core_trainHeadTakes (core_holdHeadTakes (core_holdHeadTakes h c) c) c

/-- The takes of one channel leave no head waiting there. -/
theorem takeAppendedOf_noHead (h : Core s) (hlive : s.live = true) (c : Chan) :
    NoHead ((takeAppendedOf c s).chan c) := by
  have htimely := timely_takeAppendedOf c s
  by_cases hrun : s.ctl.mode = .run
  swap
  · obtain ⟨hempty, -⟩ := (core_takeAppendedOf h c).outside (by rwa [htimely.ctl])
    exact .of_queue (hempty c)
  cases hd : (s.chan c).desc with
  | none =>
    intro d hsome
    rw [htimely.desc c, hd] at hsome
    cases hsome
  | some d =>
    rw [takeAppendedOf]
    cases hk : d.kind with
    | hold p =>
      have hruns : HoldRuns c d s := ⟨hlive, hrun, hd, by rw [hk]; rfl⟩
      have htwice := hruns.twice_noHead
      rwa [trainHeadTakes_noHead htwice]
    | train p =>
      have hheads := (timely_holdHeadTakes c s).trans (timely_holdHeadTakes c _)
      refine trainHeadTakes_noHead_of_runs (core_holdHeadTakes (core_holdHeadTakes h c) c) (d := d) (p := p) ?_
      exact ⟨hheads.live hlive, by rw [hheads.ctl, hrun], (hheads.desc c).trans hd, hk⟩

/-- The heads taken before a tick leave none waiting. -/
theorem takeAppended_noHeadWaits (h : Core s) (hlive : s.live = true) : NoHeadWaits (takeAppended s) := by
  refine noHeadWaits_iff.mpr fun c => ?_
  obtain ⟨ahead, behind, -, hbehind, hsplit⟩ := foldl_allChans takeAppendedOf c s
  rw [takeAppended, hsplit]
  have hahead := Timely.foldl timely_takeAppendedOf ahead s
  have hcore := core_foldl (fun c _ hu => core_takeAppendedOf hu c) ahead h
  exact (takeAppendedOf_noHead hcore (hahead.live hlive) c).takeAppended hbehind

/-! ### The tick -/

theorem takeAppended_noneDue (h : NoneDue s) : NoneDue (takeAppended s) := by
  have htimely : Timely s (takeAppended s) := .foldl timely_takeAppendedOf allChans s
  obtain ⟨hheartbeat, hundue⟩ := noneDue_iff.mp h
  exact noneDue_iff.mpr ⟨by rwa [htimely.ctl], fun c => (htimely.fresh c).undue (hundue c)⟩

theorem expiriesOf_isExpiry (c : Chan) : ∀ i ∈ expiriesOf c, isExpiry i = true := by
  simp [expiriesOf, isExpiry]

theorem takesOf_isHeadTake (c : Chan) : ∀ i ∈ takesOf c, isHeadTake i = true := by
  simp [takesOf, isHeadTake]

/-- The tick itself changes the timers, the timestamp and the heartbeat timer alone. -/
theorem advanceTime_frame (u : State) :
    advanceTime u = { u with
      channels := (advanceTime u).channels
      ctl := { u.ctl with timestamp := u.ctl.timestamp + 1, heartbeat := u.ctl.heartbeat.map (· - 1) } } := rfl

/-- Settles O32: the expiries due and then the heads waiting are taken, each by its own row, and the tick follows. -/
theorem tickAdvancesTimersAndTimestamp : Obligations.TickAdvancesTimersAndTimestamp := by
  intro s hlive
  refine ⟨allChans.flatMap expiriesOf ++ [.heartbeatExpiry], allChans.flatMap takesOf, takeDue s,
    takeAppended (takeDue s), advanceTime (takeAppended (takeDue s)), fun i hi => ?_, leads_takeDue s, takeDue_skip,
    fun i hi => ?_, leads_takeAppended (takeDue s), takeAppended_skip, fun hsound => ?_, ?_,
    advanceTime_frame _, advanceTime_chan _⟩
  · rcases List.mem_append.mp hi with hi | hi
    · obtain ⟨c, -, hc⟩ := List.mem_flatMap.mp hi
      exact expiriesOf_isExpiry c i hc
    · obtain rfl := List.mem_singleton.mp hi
      rfl
  · obtain ⟨c, -, hc⟩ := List.mem_flatMap.mp hi
    exact takesOf_isHeadTake c i hc
  · exact ⟨takeAppended_noneDue (takeDue_noneDue hsound hlive),
      takeAppended_noHeadWaits (core_takeDue hsound.core) (takeDue_live hlive)⟩
  · change execTimestampTick s = _
    rw [execTimestampTick, onEvent_taken hlive rfl]

end

end Sys2Proof.Machine
end
